-- ==== Sys2Proof/Word.lean ====
section
/-! DEFINITION. The two word types of the machine (00_scope.md rule R5: XLEN 8, ALEN 16). -/

namespace Sys2Proof

/-- A register, a memory byte, a data value (XLEN). -/
abbrev Byte := BitVec 8

/-- An address or the program counter (ALEN). -/
abbrev Word := BitVec 16

end Sys2Proof
end

