-- ==== Sys2Proof/Syntax.lean ====
section
/-! DEFINITION. The instruction set as syntax: one constructor for each of the 256 rows of spec/opcode_table.json
(30_encoding.md rule R99). A constructor's name is the mnemonic and the addressing mode of its row; where several
rows share both (the NOP variants, JAM, ANC, the second SBC #) the opcode byte in hexadecimal ends the name. The constructors stand in the
order of the map, those with operand bytes first (Lean's compiler allows an operand only to the first constructors
of so large a type). -/

namespace Sys2Proof

/-- One instruction. `b` is the one operand byte of the 2-byte modes (for `rel` the signed offset byte), `w` the
two operand bytes of the 3-byte modes taken low byte first (rules R80, R97). -/
inductive Instr where
  -- row 0x of rule R99, instructions with operand bytes
  | oraIzx (b : Byte)
  | sloIzx (b : Byte)
  | nopZp04 (b : Byte)
  | oraZp (b : Byte)
  | aslZp (b : Byte)
  | sloZp (b : Byte)
  | oraImm (b : Byte)
  | ancImm0B (b : Byte)
  | nopAbs0C (w : Word)
  | oraAbs (w : Word)
  | aslAbs (w : Word)
  | sloAbs (w : Word)
  -- row 1x of rule R99, instructions with operand bytes
  | bpl (b : Byte)
  | oraIzy (b : Byte)
  | sloIzy (b : Byte)
  | nopZpx14 (b : Byte)
  | oraZpx (b : Byte)
  | aslZpx (b : Byte)
  | sloZpx (b : Byte)
  | oraAby (w : Word)
  | sloAby (w : Word)
  | nopAbx1C (w : Word)
  | oraAbx (w : Word)
  | aslAbx (w : Word)
  | sloAbx (w : Word)
  -- row 2x of rule R99, instructions with operand bytes
  | jsr (w : Word)
  | andIzx (b : Byte)
  | rlaIzx (b : Byte)
  | bitZp (b : Byte)
  | andZp (b : Byte)
  | rolZp (b : Byte)
  | rlaZp (b : Byte)
  | andImm (b : Byte)
  | ancImm2B (b : Byte)
  | bitAbs (w : Word)
  | andAbs (w : Word)
  | rolAbs (w : Word)
  | rlaAbs (w : Word)
  -- row 3x of rule R99, instructions with operand bytes
  | bmi (b : Byte)
  | andIzy (b : Byte)
  | rlaIzy (b : Byte)
  | nopZpx34 (b : Byte)
  | andZpx (b : Byte)
  | rolZpx (b : Byte)
  | rlaZpx (b : Byte)
  | andAby (w : Word)
  | rlaAby (w : Word)
  | nopAbx3C (w : Word)
  | andAbx (w : Word)
  | rolAbx (w : Word)
  | rlaAbx (w : Word)
  -- row 4x of rule R99, instructions with operand bytes
  | eorIzx (b : Byte)
  | sreIzx (b : Byte)
  | nopZp44 (b : Byte)
  | eorZp (b : Byte)
  | lsrZp (b : Byte)
  | sreZp (b : Byte)
  | eorImm (b : Byte)
  | alrImm (b : Byte)
  | jmpAbs (w : Word)
  | eorAbs (w : Word)
  | lsrAbs (w : Word)
  | sreAbs (w : Word)
  -- row 5x of rule R99, instructions with operand bytes
  | bvc (b : Byte)
  | eorIzy (b : Byte)
  | sreIzy (b : Byte)
  | nopZpx54 (b : Byte)
  | eorZpx (b : Byte)
  | lsrZpx (b : Byte)
  | sreZpx (b : Byte)
  | eorAby (w : Word)
  | sreAby (w : Word)
  | nopAbx5C (w : Word)
  | eorAbx (w : Word)
  | lsrAbx (w : Word)
  | sreAbx (w : Word)
  -- row 6x of rule R99, instructions with operand bytes
  | adcIzx (b : Byte)
  | rraIzx (b : Byte)
  | nopZp64 (b : Byte)
  | adcZp (b : Byte)
  | rorZp (b : Byte)
  | rraZp (b : Byte)
  | adcImm (b : Byte)
  | arrImm (b : Byte)
  | jmpInd (w : Word)
  | adcAbs (w : Word)
  | rorAbs (w : Word)
  | rraAbs (w : Word)
  -- row 7x of rule R99, instructions with operand bytes
  | bvs (b : Byte)
  | adcIzy (b : Byte)
  | rraIzy (b : Byte)
  | nopZpx74 (b : Byte)
  | adcZpx (b : Byte)
  | rorZpx (b : Byte)
  | rraZpx (b : Byte)
  | adcAby (w : Word)
  | rraAby (w : Word)
  | nopAbx7C (w : Word)
  | adcAbx (w : Word)
  | rorAbx (w : Word)
  | rraAbx (w : Word)
  -- row 8x of rule R99, instructions with operand bytes
  | nopImm80 (b : Byte)
  | staIzx (b : Byte)
  | nopImm82 (b : Byte)
  | saxIzx (b : Byte)
  | styZp (b : Byte)
  | staZp (b : Byte)
  | stxZp (b : Byte)
  | saxZp (b : Byte)
  | nopImm89 (b : Byte)
  | aneImm (b : Byte)
  | styAbs (w : Word)
  | staAbs (w : Word)
  | stxAbs (w : Word)
  | saxAbs (w : Word)
  -- row 9x of rule R99, instructions with operand bytes
  | bcc (b : Byte)
  | staIzy (b : Byte)
  | shaIzy (b : Byte)
  | styZpx (b : Byte)
  | staZpx (b : Byte)
  | stxZpy (b : Byte)
  | saxZpy (b : Byte)
  | staAby (w : Word)
  | tasAby (w : Word)
  | shyAbx (w : Word)
  | staAbx (w : Word)
  | shxAby (w : Word)
  | shaAby (w : Word)
  -- row Ax of rule R99, instructions with operand bytes
  | ldyImm (b : Byte)
  | ldaIzx (b : Byte)
  | ldxImm (b : Byte)
  | laxIzx (b : Byte)
  | ldyZp (b : Byte)
  | ldaZp (b : Byte)
  | ldxZp (b : Byte)
  | laxZp (b : Byte)
  | ldaImm (b : Byte)
  | lxaImm (b : Byte)
  | ldyAbs (w : Word)
  | ldaAbs (w : Word)
  | ldxAbs (w : Word)
  | laxAbs (w : Word)
  -- row Bx of rule R99, instructions with operand bytes
  | bcs (b : Byte)
  | ldaIzy (b : Byte)
  | laxIzy (b : Byte)
  | ldyZpx (b : Byte)
  | ldaZpx (b : Byte)
  | ldxZpy (b : Byte)
  | laxZpy (b : Byte)
  | ldaAby (w : Word)
  | lasAby (w : Word)
  | ldyAbx (w : Word)
  | ldaAbx (w : Word)
  | ldxAby (w : Word)
  | laxAby (w : Word)
  -- row Cx of rule R99, instructions with operand bytes
  | cpyImm (b : Byte)
  | cmpIzx (b : Byte)
  | nopImmC2 (b : Byte)
  | dcpIzx (b : Byte)
  | cpyZp (b : Byte)
  | cmpZp (b : Byte)
  | decZp (b : Byte)
  | dcpZp (b : Byte)
  | cmpImm (b : Byte)
  | sbxImm (b : Byte)
  | cpyAbs (w : Word)
  | cmpAbs (w : Word)
  | decAbs (w : Word)
  | dcpAbs (w : Word)
  -- row Dx of rule R99, instructions with operand bytes
  | bne (b : Byte)
  | cmpIzy (b : Byte)
  | dcpIzy (b : Byte)
  | nopZpxD4 (b : Byte)
  | cmpZpx (b : Byte)
  | decZpx (b : Byte)
  | dcpZpx (b : Byte)
  | cmpAby (w : Word)
  | dcpAby (w : Word)
  | nopAbxDC (w : Word)
  | cmpAbx (w : Word)
  | decAbx (w : Word)
  | dcpAbx (w : Word)
  -- row Ex of rule R99, instructions with operand bytes
  | cpxImm (b : Byte)
  | sbcIzx (b : Byte)
  | nopImmE2 (b : Byte)
  | iscIzx (b : Byte)
  | cpxZp (b : Byte)
  | sbcZp (b : Byte)
  | incZp (b : Byte)
  | iscZp (b : Byte)
  | sbcImm (b : Byte)
  | sbcImmEB (b : Byte)
  | cpxAbs (w : Word)
  | sbcAbs (w : Word)
  | incAbs (w : Word)
  | iscAbs (w : Word)
  -- row Fx of rule R99, instructions with operand bytes
  | beq (b : Byte)
  | sbcIzy (b : Byte)
  | iscIzy (b : Byte)
  | nopZpxF4 (b : Byte)
  | sbcZpx (b : Byte)
  | incZpx (b : Byte)
  | iscZpx (b : Byte)
  | sbcAby (w : Word)
  | iscAby (w : Word)
  | nopAbxFC (w : Word)
  | sbcAbx (w : Word)
  | incAbx (w : Word)
  | iscAbx (w : Word)
  -- row 0x of rule R99, one-byte instructions
  | brk
  | jam02
  | php
  | aslAcc
  -- row 1x of rule R99, one-byte instructions
  | jam12
  | clc
  | nop1A
  -- row 2x of rule R99, one-byte instructions
  | jam22
  | plp
  | rolAcc
  -- row 3x of rule R99, one-byte instructions
  | jam32
  | sec
  | nop3A
  -- row 4x of rule R99, one-byte instructions
  | rti
  | jam42
  | pha
  | lsrAcc
  -- row 5x of rule R99, one-byte instructions
  | jam52
  | cli
  | nop5A
  -- row 6x of rule R99, one-byte instructions
  | rts
  | jam62
  | pla
  | rorAcc
  -- row 7x of rule R99, one-byte instructions
  | jam72
  | sei
  | nop7A
  -- row 8x of rule R99, one-byte instructions
  | dey
  | txa
  -- row 9x of rule R99, one-byte instructions
  | jam92
  | tya
  | txs
  -- row Ax of rule R99, one-byte instructions
  | tay
  | tax
  -- row Bx of rule R99, one-byte instructions
  | jamB2
  | clv
  | tsx
  -- row Cx of rule R99, one-byte instructions
  | iny
  | dex
  -- row Dx of rule R99, one-byte instructions
  | jamD2
  | cld
  | nopDA
  -- row Ex of rule R99, one-byte instructions
  | inx
  | nop
  -- row Fx of rule R99, one-byte instructions
  | jamF2
  | sed
  | nopFA
  deriving DecidableEq, Repr

/-- The addressing modes of rule R80, one constructor per format of the table. -/
inductive Mode where
  | imp | acc | imm | zp | zpx | zpy | abs | abx | aby | izx | izy | ind | rel
  deriving DecidableEq, Repr

/-- The length in bytes that a mode gives an instruction (rule R80). -/
def Mode.length : Mode → Nat
  | .imp => 1
  | .acc => 1
  | .imm => 2
  | .zp => 2
  | .zpx => 2
  | .zpy => 2
  | .abs => 3
  | .abx => 3
  | .aby => 3
  | .izx => 2
  | .izy => 2
  | .ind => 3
  | .rel => 2

/-- What the spec makes of an opcode byte (rules R98, R109): official, undocumented with a meaning, or refused. -/
inductive OpcodeClass where
  | official | undocumented | refused
  deriving DecidableEq, Repr

/-- The addressing mode of each instruction (rule R99). -/
def Instr.mode : Instr → Mode
  | .brk | .jam02 | .php | .jam12 | .clc | .nop1A | .jam22 | .plp | .jam32 | .sec | .nop3A | .rti | .jam42
  | .pha | .jam52 | .cli | .nop5A | .rts | .jam62 | .pla | .jam72 | .sei | .nop7A | .dey | .txa | .jam92 | .tya
  | .txs | .tay | .tax | .jamB2 | .clv | .tsx | .iny | .dex | .jamD2 | .cld | .nopDA | .inx | .nop | .jamF2
  | .sed | .nopFA => .imp
  | .aslAcc | .rolAcc | .lsrAcc | .rorAcc => .acc
  | .oraImm _ | .ancImm0B _ | .andImm _ | .ancImm2B _ | .eorImm _ | .alrImm _ | .adcImm _ | .arrImm _
  | .nopImm80 _ | .nopImm82 _ | .nopImm89 _ | .aneImm _ | .ldyImm _ | .ldxImm _ | .ldaImm _ | .lxaImm _
  | .cpyImm _ | .nopImmC2 _ | .cmpImm _ | .sbxImm _ | .cpxImm _ | .nopImmE2 _ | .sbcImm _ | .sbcImmEB _ => .imm
  | .nopZp04 _ | .oraZp _ | .aslZp _ | .sloZp _ | .bitZp _ | .andZp _ | .rolZp _ | .rlaZp _ | .nopZp44 _
  | .eorZp _ | .lsrZp _ | .sreZp _ | .nopZp64 _ | .adcZp _ | .rorZp _ | .rraZp _ | .styZp _ | .staZp _
  | .stxZp _ | .saxZp _ | .ldyZp _ | .ldaZp _ | .ldxZp _ | .laxZp _ | .cpyZp _ | .cmpZp _ | .decZp _ | .dcpZp _
  | .cpxZp _ | .sbcZp _ | .incZp _ | .iscZp _ => .zp
  | .nopZpx14 _ | .oraZpx _ | .aslZpx _ | .sloZpx _ | .nopZpx34 _ | .andZpx _ | .rolZpx _ | .rlaZpx _
  | .nopZpx54 _ | .eorZpx _ | .lsrZpx _ | .sreZpx _ | .nopZpx74 _ | .adcZpx _ | .rorZpx _ | .rraZpx _
  | .styZpx _ | .staZpx _ | .ldyZpx _ | .ldaZpx _ | .nopZpxD4 _ | .cmpZpx _ | .decZpx _ | .dcpZpx _
  | .nopZpxF4 _ | .sbcZpx _ | .incZpx _ | .iscZpx _ => .zpx
  | .stxZpy _ | .saxZpy _ | .ldxZpy _ | .laxZpy _ => .zpy
  | .nopAbs0C _ | .oraAbs _ | .aslAbs _ | .sloAbs _ | .jsr _ | .bitAbs _ | .andAbs _ | .rolAbs _ | .rlaAbs _
  | .jmpAbs _ | .eorAbs _ | .lsrAbs _ | .sreAbs _ | .adcAbs _ | .rorAbs _ | .rraAbs _ | .styAbs _ | .staAbs _
  | .stxAbs _ | .saxAbs _ | .ldyAbs _ | .ldaAbs _ | .ldxAbs _ | .laxAbs _ | .cpyAbs _ | .cmpAbs _ | .decAbs _
  | .dcpAbs _ | .cpxAbs _ | .sbcAbs _ | .incAbs _ | .iscAbs _ => .abs
  | .nopAbx1C _ | .oraAbx _ | .aslAbx _ | .sloAbx _ | .nopAbx3C _ | .andAbx _ | .rolAbx _ | .rlaAbx _
  | .nopAbx5C _ | .eorAbx _ | .lsrAbx _ | .sreAbx _ | .nopAbx7C _ | .adcAbx _ | .rorAbx _ | .rraAbx _
  | .shyAbx _ | .staAbx _ | .ldyAbx _ | .ldaAbx _ | .nopAbxDC _ | .cmpAbx _ | .decAbx _ | .dcpAbx _
  | .nopAbxFC _ | .sbcAbx _ | .incAbx _ | .iscAbx _ => .abx
  | .oraAby _ | .sloAby _ | .andAby _ | .rlaAby _ | .eorAby _ | .sreAby _ | .adcAby _ | .rraAby _ | .staAby _
  | .tasAby _ | .shxAby _ | .shaAby _ | .ldaAby _ | .lasAby _ | .ldxAby _ | .laxAby _ | .cmpAby _ | .dcpAby _
  | .sbcAby _ | .iscAby _ => .aby
  | .oraIzx _ | .sloIzx _ | .andIzx _ | .rlaIzx _ | .eorIzx _ | .sreIzx _ | .adcIzx _ | .rraIzx _ | .staIzx _
  | .saxIzx _ | .ldaIzx _ | .laxIzx _ | .cmpIzx _ | .dcpIzx _ | .sbcIzx _ | .iscIzx _ => .izx
  | .oraIzy _ | .sloIzy _ | .andIzy _ | .rlaIzy _ | .eorIzy _ | .sreIzy _ | .adcIzy _ | .rraIzy _ | .staIzy _
  | .shaIzy _ | .ldaIzy _ | .laxIzy _ | .cmpIzy _ | .dcpIzy _ | .sbcIzy _ | .iscIzy _ => .izy
  | .jmpInd _ => .ind
  | .bpl _ | .bmi _ | .bvc _ | .bvs _ | .bcc _ | .bcs _ | .bne _ | .beq _ => .rel

/-- The class of each instruction (rule R99: no mark, `*`, `!`). -/
def Instr.opcodeClass : Instr → OpcodeClass
  | .brk | .oraIzx _ | .oraZp _ | .aslZp _ | .php | .oraImm _ | .aslAcc | .oraAbs _ | .aslAbs _ | .bpl _
  | .oraIzy _ | .oraZpx _ | .aslZpx _ | .clc | .oraAby _ | .oraAbx _ | .aslAbx _ | .jsr _ | .andIzx _
  | .bitZp _ | .andZp _ | .rolZp _ | .plp | .andImm _ | .rolAcc | .bitAbs _ | .andAbs _ | .rolAbs _ | .bmi _
  | .andIzy _ | .andZpx _ | .rolZpx _ | .sec | .andAby _ | .andAbx _ | .rolAbx _ | .rti | .eorIzx _ | .eorZp _
  | .lsrZp _ | .pha | .eorImm _ | .lsrAcc | .jmpAbs _ | .eorAbs _ | .lsrAbs _ | .bvc _ | .eorIzy _ | .eorZpx _
  | .lsrZpx _ | .cli | .eorAby _ | .eorAbx _ | .lsrAbx _ | .rts | .adcIzx _ | .adcZp _ | .rorZp _ | .pla
  | .adcImm _ | .rorAcc | .jmpInd _ | .adcAbs _ | .rorAbs _ | .bvs _ | .adcIzy _ | .adcZpx _ | .rorZpx _ | .sei
  | .adcAby _ | .adcAbx _ | .rorAbx _ | .staIzx _ | .styZp _ | .staZp _ | .stxZp _ | .dey | .txa | .styAbs _
  | .staAbs _ | .stxAbs _ | .bcc _ | .staIzy _ | .styZpx _ | .staZpx _ | .stxZpy _ | .tya | .staAby _ | .txs
  | .staAbx _ | .ldyImm _ | .ldaIzx _ | .ldxImm _ | .ldyZp _ | .ldaZp _ | .ldxZp _ | .tay | .ldaImm _ | .tax
  | .ldyAbs _ | .ldaAbs _ | .ldxAbs _ | .bcs _ | .ldaIzy _ | .ldyZpx _ | .ldaZpx _ | .ldxZpy _ | .clv
  | .ldaAby _ | .tsx | .ldyAbx _ | .ldaAbx _ | .ldxAby _ | .cpyImm _ | .cmpIzx _ | .cpyZp _ | .cmpZp _
  | .decZp _ | .iny | .cmpImm _ | .dex | .cpyAbs _ | .cmpAbs _ | .decAbs _ | .bne _ | .cmpIzy _ | .cmpZpx _
  | .decZpx _ | .cld | .cmpAby _ | .cmpAbx _ | .decAbx _ | .cpxImm _ | .sbcIzx _ | .cpxZp _ | .sbcZp _
  | .incZp _ | .inx | .sbcImm _ | .nop | .cpxAbs _ | .sbcAbs _ | .incAbs _ | .beq _ | .sbcIzy _ | .sbcZpx _
  | .incZpx _ | .sed | .sbcAby _ | .sbcAbx _ | .incAbx _ => .official
  | .sloIzx _ | .nopZp04 _ | .sloZp _ | .ancImm0B _ | .nopAbs0C _ | .sloAbs _ | .sloIzy _ | .nopZpx14 _
  | .sloZpx _ | .nop1A | .sloAby _ | .nopAbx1C _ | .sloAbx _ | .rlaIzx _ | .rlaZp _ | .ancImm2B _ | .rlaAbs _
  | .rlaIzy _ | .nopZpx34 _ | .rlaZpx _ | .nop3A | .rlaAby _ | .nopAbx3C _ | .rlaAbx _ | .sreIzx _ | .nopZp44 _
  | .sreZp _ | .alrImm _ | .sreAbs _ | .sreIzy _ | .nopZpx54 _ | .sreZpx _ | .nop5A | .sreAby _ | .nopAbx5C _
  | .sreAbx _ | .rraIzx _ | .nopZp64 _ | .rraZp _ | .arrImm _ | .rraAbs _ | .rraIzy _ | .nopZpx74 _ | .rraZpx _
  | .nop7A | .rraAby _ | .nopAbx7C _ | .rraAbx _ | .nopImm80 _ | .nopImm82 _ | .saxIzx _ | .saxZp _
  | .nopImm89 _ | .saxAbs _ | .saxZpy _ | .laxIzx _ | .laxZp _ | .laxAbs _ | .laxIzy _ | .laxZpy _ | .lasAby _
  | .laxAby _ | .nopImmC2 _ | .dcpIzx _ | .dcpZp _ | .sbxImm _ | .dcpAbs _ | .dcpIzy _ | .nopZpxD4 _
  | .dcpZpx _ | .nopDA | .dcpAby _ | .nopAbxDC _ | .dcpAbx _ | .nopImmE2 _ | .iscIzx _ | .iscZp _ | .sbcImmEB _
  | .iscAbs _ | .iscIzy _ | .nopZpxF4 _ | .iscZpx _ | .nopFA | .iscAby _ | .nopAbxFC _ | .iscAbx _ => .undocumented
  | .jam02 | .jam12 | .jam22 | .jam32 | .jam42 | .jam52 | .jam62 | .jam72 | .aneImm _ | .jam92 | .shaIzy _
  | .tasAby _ | .shyAbx _ | .shxAby _ | .shaAby _ | .lxaImm _ | .jamB2 | .jamD2 | .jamF2 => .refused

end Sys2Proof
end

