-- ==== Sys2Proof/WellFormed.lean ====
section
/-! DEFINITION. Which instructions are well formed. Every operand is a bit vector of its field's width, so a term
can only be ill formed by being one of the 19 encodings the spec refuses (30_encoding.md rules R100, R109). -/

namespace Sys2Proof

/-- The admitted set of rule R109: the instruction's opcode byte is of class official or undocumented. -/
def Instr.wellFormed (i : Instr) : Bool :=
  match i.opcodeClass with
  | .official => true
  | .undocumented => true
  | .refused => false

/-- `i` is an instruction the spec gives a meaning (rule R109). -/
abbrev WellFormed (i : Instr) : Prop := i.wellFormed = true

end Sys2Proof
end

