-- ==== Sys2Proof/Decode.lean ====
section
/-! DEFINITION. From bytes to instructions and back. The decoder is written from the 16 × 16 map of 30_encoding.md
rule R99, the encoder from the encoding lists of the instruction rules (40_alu.md to 44_undocumented.md); that the two
agree is a statement about the model, not a definition. -/

namespace Sys2Proof

/-! ## Byte order (20_memory.md rule R53, 00_scope.md rule R6) -/

/-- The high byte of a 16-bit value, `w[15:8]`. -/
def hiByte (w : Word) : Byte := w.extractLsb' 8 8

/-- The low byte of a 16-bit value, `w[7:0]`. -/
def loByte (w : Word) : Byte := w.extractLsb' 0 8

/-- `{hi, lo}`: the 16-bit value of two bytes. -/
def joinBytes (hi lo : Byte) : Word := hi ++ lo

/-! ## The opcode map (rule R99) -/

/-- A cell of the map: the instruction, waiting for the operand bytes its mode takes (rule R80). -/
inductive Cell where
  | alone (i : Instr)
  | withByte (f : Byte → Instr)
  | withWord (f : Word → Instr)

/-- The cell completed by the two bytes after the opcode; a cell takes only the bytes it needs, low byte first. -/
def Cell.fill (b1 b2 : Byte) : Cell → Instr
  | .alone i => i
  | .withByte f => f b1
  | .withWord f => f (joinBytes b2 b1)

/-- How many operand bytes the cell takes (rules R80, R107). -/
def Cell.operandBytes : Cell → Nat
  | .alone _ => 0
  | .withByte _ => 1
  | .withWord _ => 2

/-- Row 0x of the map. -/
def mapRow0 : Vector Cell 16 :=
  #v[
    .alone .brk, .withByte .oraIzx, .alone .jam02, .withByte .sloIzx,
    .withByte .nopZp04, .withByte .oraZp, .withByte .aslZp, .withByte .sloZp,
    .alone .php, .withByte .oraImm, .alone .aslAcc, .withByte .ancImm0B,
    .withWord .nopAbs0C, .withWord .oraAbs, .withWord .aslAbs, .withWord .sloAbs]

/-- Row 1x of the map. -/
def mapRow1 : Vector Cell 16 :=
  #v[
    .withByte .bpl, .withByte .oraIzy, .alone .jam12, .withByte .sloIzy,
    .withByte .nopZpx14, .withByte .oraZpx, .withByte .aslZpx, .withByte .sloZpx,
    .alone .clc, .withWord .oraAby, .alone .nop1A, .withWord .sloAby,
    .withWord .nopAbx1C, .withWord .oraAbx, .withWord .aslAbx, .withWord .sloAbx]

/-- Row 2x of the map. -/
def mapRow2 : Vector Cell 16 :=
  #v[
    .withWord .jsr, .withByte .andIzx, .alone .jam22, .withByte .rlaIzx,
    .withByte .bitZp, .withByte .andZp, .withByte .rolZp, .withByte .rlaZp,
    .alone .plp, .withByte .andImm, .alone .rolAcc, .withByte .ancImm2B,
    .withWord .bitAbs, .withWord .andAbs, .withWord .rolAbs, .withWord .rlaAbs]

/-- Row 3x of the map. -/
def mapRow3 : Vector Cell 16 :=
  #v[
    .withByte .bmi, .withByte .andIzy, .alone .jam32, .withByte .rlaIzy,
    .withByte .nopZpx34, .withByte .andZpx, .withByte .rolZpx, .withByte .rlaZpx,
    .alone .sec, .withWord .andAby, .alone .nop3A, .withWord .rlaAby,
    .withWord .nopAbx3C, .withWord .andAbx, .withWord .rolAbx, .withWord .rlaAbx]

/-- Row 4x of the map. -/
def mapRow4 : Vector Cell 16 :=
  #v[
    .alone .rti, .withByte .eorIzx, .alone .jam42, .withByte .sreIzx,
    .withByte .nopZp44, .withByte .eorZp, .withByte .lsrZp, .withByte .sreZp,
    .alone .pha, .withByte .eorImm, .alone .lsrAcc, .withByte .alrImm,
    .withWord .jmpAbs, .withWord .eorAbs, .withWord .lsrAbs, .withWord .sreAbs]

/-- Row 5x of the map. -/
def mapRow5 : Vector Cell 16 :=
  #v[
    .withByte .bvc, .withByte .eorIzy, .alone .jam52, .withByte .sreIzy,
    .withByte .nopZpx54, .withByte .eorZpx, .withByte .lsrZpx, .withByte .sreZpx,
    .alone .cli, .withWord .eorAby, .alone .nop5A, .withWord .sreAby,
    .withWord .nopAbx5C, .withWord .eorAbx, .withWord .lsrAbx, .withWord .sreAbx]

/-- Row 6x of the map. -/
def mapRow6 : Vector Cell 16 :=
  #v[
    .alone .rts, .withByte .adcIzx, .alone .jam62, .withByte .rraIzx,
    .withByte .nopZp64, .withByte .adcZp, .withByte .rorZp, .withByte .rraZp,
    .alone .pla, .withByte .adcImm, .alone .rorAcc, .withByte .arrImm,
    .withWord .jmpInd, .withWord .adcAbs, .withWord .rorAbs, .withWord .rraAbs]

/-- Row 7x of the map. -/
def mapRow7 : Vector Cell 16 :=
  #v[
    .withByte .bvs, .withByte .adcIzy, .alone .jam72, .withByte .rraIzy,
    .withByte .nopZpx74, .withByte .adcZpx, .withByte .rorZpx, .withByte .rraZpx,
    .alone .sei, .withWord .adcAby, .alone .nop7A, .withWord .rraAby,
    .withWord .nopAbx7C, .withWord .adcAbx, .withWord .rorAbx, .withWord .rraAbx]

/-- Row 8x of the map. -/
def mapRow8 : Vector Cell 16 :=
  #v[
    .withByte .nopImm80, .withByte .staIzx, .withByte .nopImm82, .withByte .saxIzx,
    .withByte .styZp, .withByte .staZp, .withByte .stxZp, .withByte .saxZp,
    .alone .dey, .withByte .nopImm89, .alone .txa, .withByte .aneImm,
    .withWord .styAbs, .withWord .staAbs, .withWord .stxAbs, .withWord .saxAbs]

/-- Row 9x of the map. -/
def mapRow9 : Vector Cell 16 :=
  #v[
    .withByte .bcc, .withByte .staIzy, .alone .jam92, .withByte .shaIzy,
    .withByte .styZpx, .withByte .staZpx, .withByte .stxZpy, .withByte .saxZpy,
    .alone .tya, .withWord .staAby, .alone .txs, .withWord .tasAby,
    .withWord .shyAbx, .withWord .staAbx, .withWord .shxAby, .withWord .shaAby]

/-- Row Ax of the map. -/
def mapRowA : Vector Cell 16 :=
  #v[
    .withByte .ldyImm, .withByte .ldaIzx, .withByte .ldxImm, .withByte .laxIzx,
    .withByte .ldyZp, .withByte .ldaZp, .withByte .ldxZp, .withByte .laxZp,
    .alone .tay, .withByte .ldaImm, .alone .tax, .withByte .lxaImm,
    .withWord .ldyAbs, .withWord .ldaAbs, .withWord .ldxAbs, .withWord .laxAbs]

/-- Row Bx of the map. -/
def mapRowB : Vector Cell 16 :=
  #v[
    .withByte .bcs, .withByte .ldaIzy, .alone .jamB2, .withByte .laxIzy,
    .withByte .ldyZpx, .withByte .ldaZpx, .withByte .ldxZpy, .withByte .laxZpy,
    .alone .clv, .withWord .ldaAby, .alone .tsx, .withWord .lasAby,
    .withWord .ldyAbx, .withWord .ldaAbx, .withWord .ldxAby, .withWord .laxAby]

/-- Row Cx of the map. -/
def mapRowC : Vector Cell 16 :=
  #v[
    .withByte .cpyImm, .withByte .cmpIzx, .withByte .nopImmC2, .withByte .dcpIzx,
    .withByte .cpyZp, .withByte .cmpZp, .withByte .decZp, .withByte .dcpZp,
    .alone .iny, .withByte .cmpImm, .alone .dex, .withByte .sbxImm,
    .withWord .cpyAbs, .withWord .cmpAbs, .withWord .decAbs, .withWord .dcpAbs]

/-- Row Dx of the map. -/
def mapRowD : Vector Cell 16 :=
  #v[
    .withByte .bne, .withByte .cmpIzy, .alone .jamD2, .withByte .dcpIzy,
    .withByte .nopZpxD4, .withByte .cmpZpx, .withByte .decZpx, .withByte .dcpZpx,
    .alone .cld, .withWord .cmpAby, .alone .nopDA, .withWord .dcpAby,
    .withWord .nopAbxDC, .withWord .cmpAbx, .withWord .decAbx, .withWord .dcpAbx]

/-- Row Ex of the map. -/
def mapRowE : Vector Cell 16 :=
  #v[
    .withByte .cpxImm, .withByte .sbcIzx, .withByte .nopImmE2, .withByte .iscIzx,
    .withByte .cpxZp, .withByte .sbcZp, .withByte .incZp, .withByte .iscZp,
    .alone .inx, .withByte .sbcImm, .alone .nop, .withByte .sbcImmEB,
    .withWord .cpxAbs, .withWord .sbcAbs, .withWord .incAbs, .withWord .iscAbs]

/-- Row Fx of the map. -/
def mapRowF : Vector Cell 16 :=
  #v[
    .withByte .beq, .withByte .sbcIzy, .alone .jamF2, .withByte .iscIzy,
    .withByte .nopZpxF4, .withByte .sbcZpx, .withByte .incZpx, .withByte .iscZpx,
    .alone .sed, .withWord .sbcAby, .alone .nopFA, .withWord .iscAby,
    .withWord .nopAbxFC, .withWord .sbcAbx, .withWord .incAbx, .withWord .iscAbx]

/-- The map, row by high nibble. -/
def opcodeMap : Vector (Vector Cell 16) 16 :=
  #v[mapRow0, mapRow1, mapRow2, mapRow3, mapRow4, mapRow5, mapRow6, mapRow7,
    mapRow8, mapRow9, mapRowA, mapRowB, mapRowC, mapRowD, mapRowE, mapRowF]

/-- The cell of an opcode byte: row by its high nibble, column by its low nibble (rules R98, R102: every byte has one). -/
def cellOf (op : Byte) : Cell := (opcodeMap[op.toNat / 16]'(by omega))[op.toNat % 16]'(by omega)

/-! ## The decoder -/

/-- The instruction of an opcode byte and the two bytes after it. Total: all 256 opcode bytes are assigned (rule R102). -/
def decodeOp (op b1 b2 : Byte) : Instr := (cellOf op).fill b1 b2

/-- Why a list of bytes is no instruction. -/
inductive DecodeError where
  /-- The list is empty. -/
  | noOpcode
  /-- The list ends before the operand bytes of this opcode. -/
  | operandMissing (opcode : Byte)
  deriving DecidableEq, Repr

/-- The first instruction of a list of bytes and the bytes after it (rules R80, R107). -/
def decode : List Byte → Except DecodeError (Instr × List Byte)
  | [] => .error .noOpcode
  | op :: rest =>
    match (cellOf op).operandBytes, rest with
    | 0, rest => .ok (decodeOp op 0 0, rest)
    | 1, b1 :: rest => .ok (decodeOp op b1 0, rest)
    | 2, b1 :: b2 :: rest => .ok (decodeOp op b1 b2, rest)
    | _, _ => .error (.operandMissing op)

/-! ## The encoder -/

/-- The opcode byte of each instruction, from the `Encodings` line of its rule. -/
def Instr.opcode : Instr → Byte
  -- R124
  | .oraIzx _ => 0x01
  | .oraZp _ => 0x05
  | .oraImm _ => 0x09
  | .oraAbs _ => 0x0D
  | .oraIzy _ => 0x11
  | .oraZpx _ => 0x15
  | .oraAby _ => 0x19
  | .oraAbx _ => 0x1D
  -- R125
  | .andIzx _ => 0x21
  | .andZp _ => 0x25
  | .andImm _ => 0x29
  | .andAbs _ => 0x2D
  | .andIzy _ => 0x31
  | .andZpx _ => 0x35
  | .andAby _ => 0x39
  | .andAbx _ => 0x3D
  -- R126
  | .eorIzx _ => 0x41
  | .eorZp _ => 0x45
  | .eorImm _ => 0x49
  | .eorAbs _ => 0x4D
  | .eorIzy _ => 0x51
  | .eorZpx _ => 0x55
  | .eorAby _ => 0x59
  | .eorAbx _ => 0x5D
  -- R127
  | .adcIzx _ => 0x61
  | .adcZp _ => 0x65
  | .adcImm _ => 0x69
  | .adcAbs _ => 0x6D
  | .adcIzy _ => 0x71
  | .adcZpx _ => 0x75
  | .adcAby _ => 0x79
  | .adcAbx _ => 0x7D
  -- R128
  | .staIzx _ => 0x81
  | .staZp _ => 0x85
  | .staAbs _ => 0x8D
  | .staIzy _ => 0x91
  | .staZpx _ => 0x95
  | .staAby _ => 0x99
  | .staAbx _ => 0x9D
  -- R129
  | .ldaIzx _ => 0xA1
  | .ldaZp _ => 0xA5
  | .ldaImm _ => 0xA9
  | .ldaAbs _ => 0xAD
  | .ldaIzy _ => 0xB1
  | .ldaZpx _ => 0xB5
  | .ldaAby _ => 0xB9
  | .ldaAbx _ => 0xBD
  -- R130
  | .cmpIzx _ => 0xC1
  | .cmpZp _ => 0xC5
  | .cmpImm _ => 0xC9
  | .cmpAbs _ => 0xCD
  | .cmpIzy _ => 0xD1
  | .cmpZpx _ => 0xD5
  | .cmpAby _ => 0xD9
  | .cmpAbx _ => 0xDD
  -- R131
  | .sbcIzx _ => 0xE1
  | .sbcZp _ => 0xE5
  | .sbcImm _ => 0xE9
  | .sbcAbs _ => 0xED
  | .sbcIzy _ => 0xF1
  | .sbcZpx _ => 0xF5
  | .sbcAby _ => 0xF9
  | .sbcAbx _ => 0xFD
  -- R141
  | .aslZp _ => 0x06
  | .aslAcc => 0x0A
  | .aslAbs _ => 0x0E
  | .aslZpx _ => 0x16
  | .aslAbx _ => 0x1E
  -- R142
  | .rolZp _ => 0x26
  | .rolAcc => 0x2A
  | .rolAbs _ => 0x2E
  | .rolZpx _ => 0x36
  | .rolAbx _ => 0x3E
  -- R143
  | .lsrZp _ => 0x46
  | .lsrAcc => 0x4A
  | .lsrAbs _ => 0x4E
  | .lsrZpx _ => 0x56
  | .lsrAbx _ => 0x5E
  -- R144
  | .rorZp _ => 0x66
  | .rorAcc => 0x6A
  | .rorAbs _ => 0x6E
  | .rorZpx _ => 0x76
  | .rorAbx _ => 0x7E
  -- R145
  | .stxZp _ => 0x86
  | .stxAbs _ => 0x8E
  | .stxZpy _ => 0x96
  -- R146
  | .ldxImm _ => 0xA2
  | .ldxZp _ => 0xA6
  | .ldxAbs _ => 0xAE
  | .ldxZpy _ => 0xB6
  | .ldxAby _ => 0xBE
  -- R147
  | .decZp _ => 0xC6
  | .decAbs _ => 0xCE
  | .decZpx _ => 0xD6
  | .decAbx _ => 0xDE
  -- R148
  | .incZp _ => 0xE6
  | .incAbs _ => 0xEE
  | .incZpx _ => 0xF6
  | .incAbx _ => 0xFE
  -- R149
  | .txa => 0x8A
  -- R150
  | .tax => 0xAA
  -- R151
  | .txs => 0x9A
  -- R152
  | .tsx => 0xBA
  -- R153
  | .dex => 0xCA
  -- R154
  | .nop => 0xEA
  -- R172
  | .php => 0x08
  -- R173
  | .plp => 0x28
  -- R174
  | .pha => 0x48
  -- R175
  | .pla => 0x68
  -- R176
  | .dey => 0x88
  -- R177
  | .tay => 0xA8
  -- R178
  | .iny => 0xC8
  -- R179
  | .inx => 0xE8
  -- R180
  | .tya => 0x98
  -- R181
  | .clc => 0x18
  -- R182
  | .sec => 0x38
  -- R183
  | .cli => 0x58
  -- R184
  | .sei => 0x78
  -- R185
  | .clv => 0xB8
  -- R186
  | .cld => 0xD8
  -- R187
  | .sed => 0xF8
  -- R201
  | .bpl _ => 0x10
  -- R202
  | .bmi _ => 0x30
  -- R203
  | .bvc _ => 0x50
  -- R204
  | .bvs _ => 0x70
  -- R205
  | .bcc _ => 0x90
  -- R206
  | .bcs _ => 0xB0
  -- R207
  | .bne _ => 0xD0
  -- R208
  | .beq _ => 0xF0
  -- R209
  | .brk => 0x00
  -- R210
  | .jsr _ => 0x20
  -- R211
  | .rti => 0x40
  -- R212
  | .rts => 0x60
  -- R213
  | .jmpAbs _ => 0x4C
  -- R214
  | .jmpInd _ => 0x6C
  -- R215
  | .bitZp _ => 0x24
  | .bitAbs _ => 0x2C
  -- R216
  | .styZp _ => 0x84
  | .styAbs _ => 0x8C
  | .styZpx _ => 0x94
  -- R217
  | .ldyImm _ => 0xA0
  | .ldyZp _ => 0xA4
  | .ldyAbs _ => 0xAC
  | .ldyZpx _ => 0xB4
  | .ldyAbx _ => 0xBC
  -- R218
  | .cpyImm _ => 0xC0
  | .cpyZp _ => 0xC4
  | .cpyAbs _ => 0xCC
  -- R219
  | .cpxImm _ => 0xE0
  | .cpxZp _ => 0xE4
  | .cpxAbs _ => 0xEC
  -- R240
  | .sloIzx _ => 0x03
  | .sloZp _ => 0x07
  | .sloAbs _ => 0x0F
  | .sloIzy _ => 0x13
  | .sloZpx _ => 0x17
  | .sloAby _ => 0x1B
  | .sloAbx _ => 0x1F
  -- R241
  | .rlaIzx _ => 0x23
  | .rlaZp _ => 0x27
  | .rlaAbs _ => 0x2F
  | .rlaIzy _ => 0x33
  | .rlaZpx _ => 0x37
  | .rlaAby _ => 0x3B
  | .rlaAbx _ => 0x3F
  -- R242
  | .sreIzx _ => 0x43
  | .sreZp _ => 0x47
  | .sreAbs _ => 0x4F
  | .sreIzy _ => 0x53
  | .sreZpx _ => 0x57
  | .sreAby _ => 0x5B
  | .sreAbx _ => 0x5F
  -- R243
  | .rraIzx _ => 0x63
  | .rraZp _ => 0x67
  | .rraAbs _ => 0x6F
  | .rraIzy _ => 0x73
  | .rraZpx _ => 0x77
  | .rraAby _ => 0x7B
  | .rraAbx _ => 0x7F
  -- R244
  | .saxIzx _ => 0x83
  | .saxZp _ => 0x87
  | .saxAbs _ => 0x8F
  | .saxZpy _ => 0x97
  -- R245
  | .laxIzx _ => 0xA3
  | .laxZp _ => 0xA7
  | .laxAbs _ => 0xAF
  | .laxIzy _ => 0xB3
  | .laxZpy _ => 0xB7
  | .laxAby _ => 0xBF
  -- R246
  | .dcpIzx _ => 0xC3
  | .dcpZp _ => 0xC7
  | .dcpAbs _ => 0xCF
  | .dcpIzy _ => 0xD3
  | .dcpZpx _ => 0xD7
  | .dcpAby _ => 0xDB
  | .dcpAbx _ => 0xDF
  -- R247
  | .iscIzx _ => 0xE3
  | .iscZp _ => 0xE7
  | .iscAbs _ => 0xEF
  | .iscIzy _ => 0xF3
  | .iscZpx _ => 0xF7
  | .iscAby _ => 0xFB
  | .iscAbx _ => 0xFF
  -- R248
  | .ancImm0B _ => 0x0B
  | .ancImm2B _ => 0x2B
  -- R249
  | .alrImm _ => 0x4B
  -- R250
  | .arrImm _ => 0x6B
  -- R251
  | .sbxImm _ => 0xCB
  -- R252
  | .sbcImmEB _ => 0xEB
  -- R253
  | .lasAby _ => 0xBB
  -- R254
  | .nop1A => 0x1A
  | .nop3A => 0x3A
  | .nop5A => 0x5A
  | .nop7A => 0x7A
  | .nopDA => 0xDA
  | .nopFA => 0xFA
  -- R255
  | .nopImm80 _ => 0x80
  | .nopImm82 _ => 0x82
  | .nopImm89 _ => 0x89
  | .nopImmC2 _ => 0xC2
  | .nopImmE2 _ => 0xE2
  -- R256
  | .nopZp04 _ => 0x04
  | .nopAbs0C _ => 0x0C
  | .nopZpx14 _ => 0x14
  | .nopAbx1C _ => 0x1C
  | .nopZpx34 _ => 0x34
  | .nopAbx3C _ => 0x3C
  | .nopZp44 _ => 0x44
  | .nopZpx54 _ => 0x54
  | .nopAbx5C _ => 0x5C
  | .nopZp64 _ => 0x64
  | .nopZpx74 _ => 0x74
  | .nopAbx7C _ => 0x7C
  | .nopZpxD4 _ => 0xD4
  | .nopAbxDC _ => 0xDC
  | .nopZpxF4 _ => 0xF4
  | .nopAbxFC _ => 0xFC
  -- R257
  | .aneImm _ => 0x8B
  -- R258
  | .lxaImm _ => 0xAB
  -- R259
  | .shaIzy _ => 0x93
  | .shaAby _ => 0x9F
  -- R260
  | .shxAby _ => 0x9E
  -- R261
  | .shyAbx _ => 0x9C
  -- R262
  | .tasAby _ => 0x9B
  -- R263
  | .jam02 => 0x02
  | .jam12 => 0x12
  | .jam22 => 0x22
  | .jam32 => 0x32
  | .jam42 => 0x42
  | .jam52 => 0x52
  | .jam62 => 0x62
  | .jam72 => 0x72
  | .jam92 => 0x92
  | .jamB2 => 0xB2
  | .jamD2 => 0xD2
  | .jamF2 => 0xF2

/-- The operand bytes of each instruction: the byte of a 2-byte mode, the low and the high byte of a 3-byte mode
(rules R80, R97). -/
def Instr.operandBytes : Instr → List Byte
  | .brk | .jam02 | .php | .aslAcc | .jam12 | .clc | .nop1A | .jam22 | .plp | .rolAcc | .jam32 | .sec | .nop3A
  | .rti | .jam42 | .pha | .lsrAcc | .jam52 | .cli | .nop5A | .rts | .jam62 | .pla | .rorAcc | .jam72 | .sei
  | .nop7A | .dey | .txa | .jam92 | .tya | .txs | .tay | .tax | .jamB2 | .clv | .tsx | .iny | .dex | .jamD2
  | .cld | .nopDA | .inx | .nop | .jamF2 | .sed | .nopFA => []
  | .oraIzx b | .sloIzx b | .nopZp04 b | .oraZp b | .aslZp b | .sloZp b | .oraImm b | .ancImm0B b | .bpl b
  | .oraIzy b | .sloIzy b | .nopZpx14 b | .oraZpx b | .aslZpx b | .sloZpx b | .andIzx b | .rlaIzx b | .bitZp b
  | .andZp b | .rolZp b | .rlaZp b | .andImm b | .ancImm2B b | .bmi b | .andIzy b | .rlaIzy b | .nopZpx34 b
  | .andZpx b | .rolZpx b | .rlaZpx b | .eorIzx b | .sreIzx b | .nopZp44 b | .eorZp b | .lsrZp b | .sreZp b
  | .eorImm b | .alrImm b | .bvc b | .eorIzy b | .sreIzy b | .nopZpx54 b | .eorZpx b | .lsrZpx b | .sreZpx b
  | .adcIzx b | .rraIzx b | .nopZp64 b | .adcZp b | .rorZp b | .rraZp b | .adcImm b | .arrImm b | .bvs b
  | .adcIzy b | .rraIzy b | .nopZpx74 b | .adcZpx b | .rorZpx b | .rraZpx b | .nopImm80 b | .staIzx b
  | .nopImm82 b | .saxIzx b | .styZp b | .staZp b | .stxZp b | .saxZp b | .nopImm89 b | .aneImm b | .bcc b
  | .staIzy b | .shaIzy b | .styZpx b | .staZpx b | .stxZpy b | .saxZpy b | .ldyImm b | .ldaIzx b | .ldxImm b
  | .laxIzx b | .ldyZp b | .ldaZp b | .ldxZp b | .laxZp b | .ldaImm b | .lxaImm b | .bcs b | .ldaIzy b
  | .laxIzy b | .ldyZpx b | .ldaZpx b | .ldxZpy b | .laxZpy b | .cpyImm b | .cmpIzx b | .nopImmC2 b | .dcpIzx b
  | .cpyZp b | .cmpZp b | .decZp b | .dcpZp b | .cmpImm b | .sbxImm b | .bne b | .cmpIzy b | .dcpIzy b
  | .nopZpxD4 b | .cmpZpx b | .decZpx b | .dcpZpx b | .cpxImm b | .sbcIzx b | .nopImmE2 b | .iscIzx b
  | .cpxZp b | .sbcZp b | .incZp b | .iscZp b | .sbcImm b | .sbcImmEB b | .beq b | .sbcIzy b | .iscIzy b
  | .nopZpxF4 b | .sbcZpx b | .incZpx b | .iscZpx b => [b]
  | .nopAbs0C w | .oraAbs w | .aslAbs w | .sloAbs w | .oraAby w | .sloAby w | .nopAbx1C w | .oraAbx w
  | .aslAbx w | .sloAbx w | .jsr w | .bitAbs w | .andAbs w | .rolAbs w | .rlaAbs w | .andAby w | .rlaAby w
  | .nopAbx3C w | .andAbx w | .rolAbx w | .rlaAbx w | .jmpAbs w | .eorAbs w | .lsrAbs w | .sreAbs w | .eorAby w
  | .sreAby w | .nopAbx5C w | .eorAbx w | .lsrAbx w | .sreAbx w | .jmpInd w | .adcAbs w | .rorAbs w | .rraAbs w
  | .adcAby w | .rraAby w | .nopAbx7C w | .adcAbx w | .rorAbx w | .rraAbx w | .styAbs w | .staAbs w | .stxAbs w
  | .saxAbs w | .staAby w | .tasAby w | .shyAbx w | .staAbx w | .shxAby w | .shaAby w | .ldyAbs w | .ldaAbs w
  | .ldxAbs w | .laxAbs w | .ldaAby w | .lasAby w | .ldyAbx w | .ldaAbx w | .ldxAby w | .laxAby w | .cpyAbs w
  | .cmpAbs w | .decAbs w | .dcpAbs w | .cmpAby w | .dcpAby w | .nopAbxDC w | .cmpAbx w | .decAbx w | .dcpAbx w
  | .cpxAbs w | .sbcAbs w | .incAbs w | .iscAbs w | .sbcAby w | .iscAby w | .nopAbxFC w | .sbcAbx w | .incAbx w
  | .iscAbx w => [loByte w, hiByte w]

/-- The bytes of an instruction (rule R80: the opcode byte, then the operand bytes). -/
def encode (i : Instr) : List Byte := i.opcode :: i.operandBytes

/-! ## The opcode table's numbering -/

/-- Byte `k` of an instruction whose lowest `nbits` bits are those of `w` and whose other bits are 0; bit 0 of `w` is
the least significant bit of the first byte. -/
def tableByte (nbits w k : Nat) : Byte := BitVec.ofNat 8 (w % 2 ^ nbits / 256 ^ k)

/-- The instruction the decoder reads from the bits of a row of spec/opcode_table.json. -/
def decodeTableWord (nbits w : Nat) : Option Instr :=
  match decode [tableByte nbits w 0, tableByte nbits w 1, tableByte nbits w 2] with
  | .ok (i, _) => some i
  | .error _ => none

end Sys2Proof
end

