-- ==== Sys2Proof/Config.lean ====
section
/-! DEFINITION. What is fixed for a machine: the free values the spec leaves open and the numbers of the sound device
(00_scope.md rule R5, 93_implementation_defined.md U12). Every constant declared with the word opaque has no value that
a proof can see: a statement that mentions one holds whatever it is. The parameters the spec decides but keeps open
(ZP_WRAP and the like) are data in State (Machine/State.lean), and the addresses it fixes stand in Machine/Ops.lean. -/

namespace Sys2Proof

/-! ## Free values -/

/-- What a byte of memory holds before the host or the program writes it (rule R45, U6): one free value for each
address, the same at every read (log entry 1). -/
opaque Config.initialByte : Word → Byte

/-- The effective-address output after an instruction without a memory operand (rule R30, U2), and both address outputs
after `init` (rule R43, U3); the argument counts the free values taken so far (log entry 7). -/
opaque Config.freeAddr : Nat → Word

/-- The cycle output of a tick that returns a sentinel (rule R301, U4) and after `init` (rule R43, U3; log entry 7). -/
opaque Config.freeCycles : Nat → Nat

/-- A read-back byte of a register window after an `emulate` call (rule R335, U7) and IR after `init` (rule R43, U3; log
entry 7). -/
opaque Config.freeByte : Nat → Byte

/-- `CYCLE_TABLE` (rule R420, U5) but for the extra cycles of a read-modify-write instruction: the cost of an opcode,
given whether a branch was taken and whether the indexed address or the branch crossed a page (log entry 10). -/
opaque Config.baseCycles : (opcode : Byte) → (taken : Bool) → (crossed : Bool) → Nat

/-- The extra cycles of a read-modify-write instruction, less one (rule R420 (b), U5; log entry 10). -/
opaque Config.rmwCyclesLessOne : (opcode : Byte) → Nat

/-- `INIT_CEILING`: the most ticks the host makes in the init routine (rules R5, R314, U14). -/
opaque Config.initCeiling : Nat

/-- `ROM_REENTRY`: the set of PC values that end a frame's tick loop (rules R5, R317, U14). -/
opaque Config.romReentry : Word → Bool

/-! ## The sound device's numbers -/

/-- The two analog variants (rules R5, R337). -/
inductive ChipModel where
  | m6581 | m8580
  deriving DecidableEq, Repr

/-- The combinations of triangle, sawtooth and pulse that use a combined-waveform table (rule R359). -/
inductive Combo where
  | triSaw | pulseTri | pulseSaw | pulseTriSaw
  deriving DecidableEq, Repr

/-- The three combined-waveform tables (rule R359). -/
inductive CombinedTable where
  | triSaw | pulseSaw | pulseTriSaw
  deriving DecidableEq, Repr

/-- What the rate comparison of a sample is given (rules R342, R343): the period of the rate in force, `CLK_RATIO`, and
the rate counter before and after its advance. -/
structure RateInput where
  period : Rat
  clkRatio : Rat
  before : Rat
  ratecnt : Rat

/-- What a rate comparison answers: whether the period was reached, and the rate counter it leaves. -/
structure RateOutput where
  reached : Bool
  ratecnt : Rat

/-- The device parameters rule R5 leaves OPEN, as one record, so that the device's operations can be stated and
tested for every value of them. It is no part of the state. -/
structure DevConfig where
  /-- `CLK_RATIO`, chip clock over sample rate (D20). -/
  clkRatio : Rat
  /-- `ADSR_PERIOD[16]` (rule R345). -/
  adsrPeriod : BitVec 4 → Rat
  /-- `ADSR_STEP[0]`; the steps of the other rates are 1 (rules R343, R345). -/
  adsrStepZero : Nat
  /-- `ADSR_EXP_PERIOD[256]` (rule R346). -/
  adsrExpPeriod : Byte → Nat
  /-- The rate comparison of the envelope realisation (U9): none for the candidate of rule R347, else another (log
  entry 15). -/
  rateRealisation : Option (RateInput → RateOutput)
  /-- `SAW_CORRECT` for a step other than 0 (rule R355). -/
  sawCorrect : BitVec 16 → Rat → BitVec 16
  /-- Where `PULSE_CORRECT` may differ from the uncorrected output: near an edge (rule R356; phase, width, step). -/
  pulseNearEdge : BitVec 16 → BitVec 16 → Rat → Bool
  /-- `PULSE_CORRECT` near an edge (rule R356; phase, width, step, test bit). -/
  pulseEdge : BitVec 16 → BitVec 16 → Rat → Bool → BitVec 16
  /-- Whether the noise register is clocked in a sample (rule R357; CTRL[7:4], phase, previous phase, step). -/
  noiseClocked : BitVec 4 → BitVec 24 → BitVec 24 → Rat → Bool
  /-- The taps of the noise register: the bits whose exclusive or is fed in (rule R357). -/
  noiseTaps : BitVec 23
  /-- The bit fed into the noise register under the test bit (rule R357; register). -/
  noiseTestFeed : BitVec 23 → Bool
  /-- The noise output (rule R357). -/
  noiseOut : BitVec 23 → BitVec 16
  /-- `COMBINED_TABLE[3][4096]` (rule R359). -/
  combinedTable : CombinedTable → BitVec 12 → BitVec 16
  /-- Whether a combination takes its index from the folded triangle value rather than from the phase (rule R359). -/
  combinedFolded : Combo → Bool
  /-- Whether that folded triangle value is ring-modulated (rules R332, R359). -/
  combinedRing : Combo → Bool
  /-- Whether the average of two combined samples is rounded up when their sum is odd (rule R359). -/
  combinedRoundUp : Bool
  /-- `CUTOFF_CURVE` (rule R372). -/
  cutoffCurve : ChipModel → BitVec 11 → Rat
  /-- `RESONANCE_MAP` (rule R372). -/
  resonanceMap : ChipModel → BitVec 4 → Rat
  /-- `OUTPUT_NORM` (rule R380). -/
  outputNorm : Rat

/-- The limits rule R5 and rule R343 put on the open numbers: `CLK_RATIO` is positive, a period is not negative, a
step is at least 1, and the normalization constant is not 0. -/
structure DevConfig.Valid (cfg : DevConfig) : Prop where
  clkRatio_pos : 0 < cfg.clkRatio
  adsrPeriod_nonneg : ∀ r, 0 ≤ cfg.adsrPeriod r
  adsrStepZero_pos : 1 ≤ cfg.adsrStepZero
  outputNorm_ne_zero : cfg.outputNorm ≠ 0

/-- Every positive rational is one of these (with `n + 1` over `d + 1`). -/
def Config.posRat (n d : Nat) : Rat := ((n : Rat) + 1) / ((d : Rat) + 1)

opaque Config.clkRatioNum : Nat
opaque Config.clkRatioDen : Nat
opaque Config.adsrPeriodNum : BitVec 4 → Nat
opaque Config.adsrPeriodDen : BitVec 4 → Nat
opaque Config.adsrStepZeroLessOne : Nat
opaque Config.adsrExpPeriod : Byte → Nat
opaque Config.rateRealisation : Option (RateInput → RateOutput)
opaque Config.sawCorrect : BitVec 16 → Rat → BitVec 16
opaque Config.pulseNearEdge : BitVec 16 → BitVec 16 → Rat → Bool
opaque Config.pulseEdge : BitVec 16 → BitVec 16 → Rat → Bool → BitVec 16
opaque Config.noiseClocked : BitVec 4 → BitVec 24 → BitVec 24 → Rat → Bool
opaque Config.noiseTaps : BitVec 23
opaque Config.noiseTestFeed : BitVec 23 → Bool
opaque Config.noiseOut : BitVec 23 → BitVec 16
opaque Config.combinedTable : CombinedTable → BitVec 12 → BitVec 16
opaque Config.combinedFolded : Combo → Bool
opaque Config.combinedRing : Combo → Bool
opaque Config.combinedRoundUp : Bool
opaque Config.cutoffCurve : ChipModel → BitVec 11 → Rat
opaque Config.resonanceMap : ChipModel → BitVec 4 → Rat
opaque Config.outputNormNum : Nat
opaque Config.outputNormDen : Nat

/-- The device numbers of this machine: every OPEN parameter of rule R5 a free constant, positive where rule R5 and
rule R343 say so (log entry 10). -/
def Config.dev : DevConfig where
  clkRatio := Config.posRat Config.clkRatioNum Config.clkRatioDen
  adsrPeriod r := Config.posRat (Config.adsrPeriodNum r) (Config.adsrPeriodDen r)
  adsrStepZero := Config.adsrStepZeroLessOne + 1
  adsrExpPeriod := Config.adsrExpPeriod
  rateRealisation := Config.rateRealisation
  sawCorrect := Config.sawCorrect
  pulseNearEdge := Config.pulseNearEdge
  pulseEdge := Config.pulseEdge
  noiseClocked := Config.noiseClocked
  noiseTaps := Config.noiseTaps
  noiseTestFeed := Config.noiseTestFeed
  noiseOut := Config.noiseOut
  combinedTable := Config.combinedTable
  combinedFolded := Config.combinedFolded
  combinedRing := Config.combinedRing
  combinedRoundUp := Config.combinedRoundUp
  cutoffCurve := Config.cutoffCurve
  resonanceMap := Config.resonanceMap
  outputNorm := Config.posRat Config.outputNormNum Config.outputNormDen

/-! ## Candidates

The values the spec offers from general knowledge for some of the OPEN parameters. `Config.dev` does not use them; a
statement or a test that takes them names them. -/

/-- The candidate periods of rule R345, with `p0 = max(CLK_RATIO, 9)`. -/
def Config.candidatePeriod (clk : Rat) (rate : BitVec 4) : Rat :=
  [max clk 9, 32, 63, 95, 149, 220, 267, 313, 392, 977, 1954, 3126, 3907, 11720, 19532, 31251].getD rate.toNat 0

/-- The candidate prescaler of rule R346. -/
def Config.candidateExpPeriod (e : Byte) : Nat :=
  if e = 0 then 1 else if e ≤ 6 then 30 else if e ≤ 14 then 16 else if e ≤ 26 then 8 else if e ≤ 54 then 4
  else if e ≤ 93 then 2 else 1

/-- The candidate sawtooth correction of rule R355. The formula gives a fraction and the spec states no rounding to the
integer output: the candidate here rounds down, which is the model's choice (DESIGN CHOICE, log entry 22). -/
def Config.candidateSaw (s : BitVec 16) (add : Rat) : BitVec 16 :=
  let k := add / 0x1200000
  let w : Rat := s.toNat + s.toNat * k
  BitVec.ofInt 16 (if w > 0xFFFF then 0xFFFF - (w - 0x10000) / k else w).floor

/-- The candidate clocking of the noise register of rule R357: bit 20 changes, or the step is large. -/
def Config.candidateNoiseClocked (_wf : BitVec 4) (phase prev : BitVec 24) (add : Rat) : Bool :=
  phase.getLsbD 20 != prev.getLsbD 20 || decide (add ≥ 0x100000)

/-- The candidate taps of rule R357: bits 22 and 17. -/
def Config.candidateNoiseTaps : BitVec 23 := BitVec.twoPow 23 22 ||| BitVec.twoPow 23 17

/-- The candidate noise output of rule R357: eight register bits in the high byte. -/
def Config.candidateNoiseOut (r : BitVec 23) : BitVec 16 :=
  (BitVec.ofBool (r.getLsbD 20) ++ BitVec.ofBool (r.getLsbD 18) ++ BitVec.ofBool (r.getLsbD 14) ++
    BitVec.ofBool (r.getLsbD 11) ++ BitVec.ofBool (r.getLsbD 9) ++ BitVec.ofBool (r.getLsbD 5) ++
    BitVec.ofBool (r.getLsbD 2) ++ BitVec.ofBool (r.getLsbD 0) : BitVec 8) ++ (0 : BitVec 8)

/-- `Config.dev` with the candidates of rules R345, R346, R347, R355, R357 and R380 for a clock ratio. -/
def Config.candidate (clk : Rat) : DevConfig :=
  { Config.dev with
    clkRatio := clk
    adsrPeriod := Config.candidatePeriod clk
    adsrStepZero := (max clk 9 / 9).ceil.toNat
    adsrExpPeriod := Config.candidateExpPeriod
    rateRealisation := none
    sawCorrect := Config.candidateSaw
    noiseClocked := Config.candidateNoiseClocked
    noiseTaps := Config.candidateNoiseTaps
    noiseTestFeed := fun _ => true
    noiseOut := Config.candidateNoiseOut
    outputNorm := 0x10000 * 3 * 16 }

end Sys2Proof
end

