-- ==== Sys2Proof/Machine/State.lean ====
section
/-! DEFINITION. The state of the whole block as plain data (10_state.md), the reasons a step can stop, and the state
after reset. -/

namespace Sys2Proof.Machine

/-! ## The sound device's state (rules R37, R38) -/

/-- One channel of the sound device (rule R37). -/
structure Channel where
  /-- The previous gate bit. -/
  gate : Bool
  /-- ADSR phase flag: attack. -/
  attack : Bool
  /-- ADSR phase flag: decay, then sustain. -/
  decaysustain : Bool
  /-- The hold-zero latch. -/
  holdzero : Bool
  /-- The rate counter, below 0x8000. -/
  ratecnt : Rat
  /-- The envelope counter. -/
  envcnt : Byte
  /-- The exponential-decay sub-counter. -/
  expcnt : Byte
  /-- The previous sustain/release register value. -/
  prevSR : Byte
  /-- The phase accumulator, below 2^24. -/
  phase : Rat
  /-- The phase accumulator before this sample's advance. -/
  prevphase : Rat
  /-- The noise shift register. -/
  lfsr : BitVec 23
  /-- The previous waveform sample. -/
  prevwfout : BitVec 16
  /-- The previous combined-waveform sample. -/
  prevwavdata : BitVec 16
  deriving DecidableEq, Repr

/-- A channel after `chip_init` (rule R44). -/
def Channel.reset : Channel where
  gate := false
  attack := false
  decaysustain := false
  holdzero := true
  ratecnt := 0
  envcnt := 0
  expcnt := 0
  prevSR := 0
  phase := 0
  prevphase := 0
  lfsr := 0x7FFFF8
  prevwfout := 0
  prevwavdata := 0

/-- One chip: its three voices (channel `3i + v` of rule R37 is `voice`v of chip i) and the per-chip state of rule R38. -/
structure Chip where
  voice0 : Channel
  voice1 : Channel
  voice2 : Channel
  /-- The phase MSB of the voice processed last. -/
  srcMSB : Bool
  /-- Whether that MSB had just risen. -/
  srcMSBrise : Bool
  /-- The lowpass integrator. -/
  lowpass : Rat
  /-- The bandpass integrator. -/
  bandpass : Rat
  /-- `CHIP_MODEL[i]` (rule R337), set by the host. -/
  model : ChipModel
  /-- `CHIP_BASE[i]` (rule R336), set by the host. -/
  base : Word
  /-- What the chip's last `emulate` returned (rule R338): an output, recorded here (log entry 5). -/
  out : Rat
  deriving DecidableEq, Repr

/-- A chip after `chip_init` (rule R44), keeping what the host set. -/
def Chip.reset (model : ChipModel) (base : Word) (out : Rat) : Chip where
  voice0 := Channel.reset
  voice1 := Channel.reset
  voice2 := Channel.reset
  srcMSB := false
  srcMSBrise := false
  lowpass := 0
  bandpass := 0
  model := model
  base := base
  out := out

/-- The chip numbers (rule R38). -/
inductive ChipIndex where
  | chip0 | chip1 | chip2
  deriving DecidableEq, Repr

/-- The voices of a chip (rule R331). -/
inductive Voice where
  | voice0 | voice1 | voice2
  deriving DecidableEq, Repr

/-- `NCHIPS`: how many chips are active (rule R5). -/
inductive ChipCount where
  | one | two | three
  deriving DecidableEq, Repr

/-! ## Parameters and host calls -/

/-- The parameters rule R5 decides but keeps open, fixed for a machine (log entry 6). The spec gives a status no width;
that the sentinels and `State.status` are bytes is the model's (DESIGN CHOICE, log entry 28). -/
structure Params where
  /-- `ZP_WRAP` (D4): zero-page address arithmetic is modulo 0x100. -/
  zpWrap : Bool
  /-- `JMP_IND_PAGE_WRAP` (D5): JMP (ind) fetches its high byte from the page of its low byte. -/
  jmpIndPageWrap : Bool
  /-- `PUSH_OR_MASK` (D6): the bits ORed into P when PHP or BRK pushes it. -/
  pushOrMask : Byte
  /-- `SENTINEL_RTS` (D10): the status of RTS on an empty stack. -/
  sentinelRts : Byte
  /-- `SENTINEL_RTI` (D10): the status of RTI on an empty stack. -/
  sentinelRti : Byte
  deriving DecidableEq, Repr

/-- The values rule R5 decides. -/
def Params.decided : Params where
  zpWrap := true
  jmpIndPageWrap := true
  pushOrMask := 0x30
  sentinelRts := 0xFF
  sentinelRti := 0xFE

/-- What the host may do to the hardware: the whole list of 60_exceptions.md rule R312. -/
inductive HostCall where
  /-- (1) Write a byte of memory (rule R66). -/
  | writeMemory (a : Word) (v : Byte)
  /-- (2) `init(entryAddress, accumulatorSeed)` on the CPU (rule R43). -/
  | init (entryAddress accumulatorSeed : Nat)
  /-- (3) `tick()`. -/
  | tick
  /-- (4) Reseed PC and SP (rule R316). -/
  | reseed (playAddress : Word)
  /-- (5) `chip_init()` (rule R44). -/
  | chipInit
  /-- (6) `emulate(i, base)` (rule R338). -/
  | emulate (i : ChipIndex) (base : Word)
  /-- (7) Set `NCHIPS`. -/
  | setChipCount (n : ChipCount)
  /-- (7) Set `CHIP_BASE[i]`. -/
  | setChipBase (i : ChipIndex) (base : Word)
  /-- (7) Set `CHIP_MODEL[i]`. -/
  | setChipModel (i : ChipIndex) (model : ChipModel)
  /-- (8) Clear the envelope state bits of a channel that the four arguments select (rule R318). -/
  | clearEnvelope (i : ChipIndex) (v : Voice) (gate attack decaysustain holdzero : Bool)
  deriving DecidableEq, Repr

/-! ## The state -/

/-- The state of the block between two steps. -/
structure State where
  /-- The accumulator (rule R20). -/
  a : Byte
  /-- Index register X (rule R21). -/
  x : Byte
  /-- Index register Y (rule R22). -/
  y : Byte
  /-- The stack pointer (rule R23). -/
  sp : Byte
  /-- The program counter (rule R24). -/
  pc : Word
  /-- The status register, N V - B D I Z C from bit 7 to bit 0 (rule R26). -/
  p : Byte
  /-- The last-decoded opcode (rule R29). -/
  ir : Byte
  /-- The last effective address (rule R30). -/
  addr : Word
  /-- The last store address, 0 if none (rule R31). -/
  storadd : Word
  /-- The cycle cost of the last instruction (rule R32). -/
  cycles : Nat
  /-- What the last `tick` returned (rules R33, R301): an output, recorded here (log entry 5), as a byte (log entry
  28). -/
  status : Byte
  /-- Memory (rule R36): the bytes written so far, by rising address; any other byte is `Config.initialByte`. -/
  mem : List Host.Cell
  /-- Chip 0 of the sound device. -/
  chip0 : Chip
  /-- Chip 1 of the sound device. -/
  chip1 : Chip
  /-- Chip 2 of the sound device. -/
  chip2 : Chip
  /-- `NCHIPS` (rule R5), set by the host. -/
  chipCount : ChipCount
  /-- The decided parameters (rule R5); no step changes them. -/
  params : Params
  /-- The model's own: how many free values have been taken (log entry 7). -/
  draws : Nat
  /-- The model's own: the host calls still to be made, first one first (rules R2, R312; log entry 3). -/
  calls : List HostCall
  /-- The model's own: `init` has been called (rule R406; log entry 9). -/
  cpuReady : Bool
  /-- The model's own: `chip_init` has been called (rule R406; log entry 9). -/
  devReady : Bool
  deriving DecidableEq, Repr

/-! ## The reasons a step stops -/

/-- The hardware has no fault: "No exceptions" (rules R10, R300); nothing raises one. -/
inductive Fault where
  deriving DecidableEq, Repr

/-- Why the model gives no successor state. -/
inductive Refusal where
  /-- Raised by `exec` for an instruction the model gives no meaning yet. Safe: nothing is claimed. -/
  | notModelled (mnemonic : String)
  /-- Raised by the meanings of the 19 encodings for which the spec gives no successor state (rules R11, R100).
  Safe: no claim holds of such a run. -/
  | refusedEncoding (mnemonic : String)
  /-- Raised by a `tick` before any `init` (rule R406, U8). Safe: no claim holds of such a run. -/
  | tickBeforeInit
  /-- Raised by an `emulate` before any `chip_init` (rule R406, U8). Safe: no claim holds of such a run. -/
  | emulateBeforeChipInit
  /-- Raised by an `emulate` of a chip that is not below `NCHIPS` (rule R312). Safe: no claim holds of such a run. -/
  | chipNotActive
  deriving DecidableEq, Repr

/-- What a step answers. -/
abbrev Result := Host.Outcome State Fault Refusal

/-! ## Reset -/

/-- The machine right after both reset calls, `chip_init()` and `init(0x1000, 0)` (rules R43, R44, R400). Where the
spec gives a value it stands here; the others are named in the log (entries 2 to 9). -/
def State.reset : State where
  a := 0x00
  x := 0x00
  y := 0x00
  sp := 0xFF
  pc := 0x1000
  p := 0x00
  ir := 0x00
  addr := 0x0000
  storadd := 0x0000
  cycles := 0
  status := 0x00
  mem := (List.range 0x20).map fun k => (0xD400 + k, 0x00)
  chip0 := Chip.reset .m6581 0xD400 0
  chip1 := Chip.reset .m6581 0xD420 0
  chip2 := Chip.reset .m6581 0xD440 0
  chipCount := .one
  params := Params.decided
  draws := 0
  calls := []
  cpuReady := true
  devReady := true

end Sys2Proof.Machine
end

