-- ==== Sys2Proof/Machine/Flags.lean ====
section
/-! DEFINITION. The status register and every flag computation (10_state.md rules R26, R27; 40_alu.md rules R120 to
R123; 41_shift_register.md rules R141 to R144). Functions of bytes only: nothing here touches the state. -/

namespace Sys2Proof.Machine

/-- The eight bits of P (rule R26); `bit5` is the unnamed one. -/
inductive Flag where
  | n | v | bit5 | b | d | i | z | c
  deriving DecidableEq, Repr

/-- The position of a flag in P (rules R6, R7). -/
def flagPos : Flag → Nat
  | .n => 7
  | .v => 6
  | .bit5 => 5
  | .b => 4
  | .d => 3
  | .i => 2
  | .z => 1
  | .c => 0

/-- The flag `f` of the status byte `p`. -/
def getFlag (p : Byte) (f : Flag) : Bool := p.getLsbD (flagPos f)

/-- The status byte `p` with the flag `f` set to `val` and every other bit kept. -/
def putFlag (p : Byte) (f : Flag) (val : Bool) : Byte :=
  if val then p ||| BitVec.twoPow 8 (flagPos f) else p &&& ~~~(BitVec.twoPow 8 (flagPos f))

/-- Bit 7 of a byte, `v[7]`. -/
def bit7 (v : Byte) : Bool := v.getLsbD 7

/-- `SetNZ` (rule R120) on the status byte. -/
def putNZ (p v : Byte) : Byte := putFlag (putFlag p .n (bit7 v)) .z (decide (v = 0))

/-- What an addition or a subtraction gives: the 8-bit result, the carry and the overflow flag. -/
structure Sum where
  r : Byte
  c : Bool
  v : Bool
  deriving DecidableEq, Repr

/-- `AddCore` (rule R121). -/
def addCore (a m : Byte) (c : Bool) : Sum :=
  let t : Nat := a.toNat + m.toNat + c.toNat
  let r : Byte := BitVec.ofNat 8 t
  { r := r, c := decide (t > 255), v := decide ((a ^^^ r) &&& (m ^^^ r) &&& 0x80 ≠ 0) }

/-- `SubCore` (rule R122). -/
def subCore (a m : Byte) (c : Bool) : Sum := addCore a (m ^^^ 0xFF) c

/-- The flags of an addition or a subtraction: N V Z C from the sum (rules R127, R131), on the status byte. -/
def putSum (p : Byte) (s : Sum) : Byte := putNZ (putFlag (putFlag p .c s.c) .v s.v) s.r

/-- `Compare` (rule R123) on the status byte. -/
def putCompare (p reg m : Byte) : Byte :=
  putFlag (putFlag (putFlag p .c (decide (m ≤ reg))) .z (decide (reg = m))) .n (bit7 (reg - m))

/-- What a shift or rotate gives: the 8-bit result and the bit shifted out. -/
structure Shifted where
  r : Byte
  c : Bool
  deriving DecidableEq, Repr

/-- The function of ASL (rule R141): the incoming carry is ignored. -/
def shiftAsl (v : Byte) (_c : Bool) : Shifted := { r := v <<< 1, c := bit7 v }

/-- The function of ROL (rule R142). -/
def shiftRol (v : Byte) (c : Bool) : Shifted := { r := (v <<< 1) ||| (BitVec.ofBool c).zeroExtend 8, c := bit7 v }

/-- The function of LSR (rule R143): the incoming carry is ignored. -/
def shiftLsr (v : Byte) (_c : Bool) : Shifted := { r := v >>> 1, c := v.getLsbD 0 }

/-- The function of ROR (rule R144). -/
def shiftRor (v : Byte) (c : Bool) : Shifted :=
  { r := (v >>> 1) ||| ((BitVec.ofBool c).zeroExtend 8 <<< 7), c := v.getLsbD 0 }

end Sys2Proof.Machine
end

