-- ==== Sys2Proof/Machine/Ops.lean ====
section
/-! DEFINITION. The named operations over memory, registers and outputs, and the shapes of instruction built on them.
Every read and write of memory goes through `State.read` and `State.write`, every instruction's outputs and program
counter through `retire`. -/

namespace Sys2Proof.Machine

/-! ## Fixed addresses and values (00_scope.md rule R5, 20_memory.md rule R58) -/

/-- The first byte of the stack page, 0x0100 (rule R23). -/
def stackBase : Word := 0x0100

/-- `SP_RESET` (D3): the stack pointer of an empty call stack (rules R43, R211, R212, R316). -/
def spReset : Byte := 0xFF

/-- `P_RESET` (D3). -/
def pReset : Byte := 0x00

/-- Where BRK finds the low byte of its target (rules R58, R209). -/
def brkVector : Word := 0xFFFE

/-- The length of a register window in bytes (rule R44, D21). -/
def windowLength : Nat := 0x20

/-! ## Widening (rule R7) -/

/-- `zext_16(b)`. -/
def zext16 (b : Byte) : Word := b.zeroExtend 16

/-- `sext_16(b)`. -/
def sext16 (b : Byte) : Word := b.signExtend 16

/-! ## Memory (rules R50 to R52) -/

/-- The byte listed at an address, if one is. -/
def memLookup : List Host.Cell → Nat → Option Byte
  | [], _ => none
  | (k, v) :: rest, a => if a = k then some v else memLookup rest a

/-- The list with the byte at an address replaced or added in its place. -/
def memInsert : List Host.Cell → Nat → Byte → List Host.Cell
  | [], a, v => [(a, v)]
  | (k, u) :: rest, a, v =>
    if a < k then (a, v) :: (k, u) :: rest
    else if a = k then (a, v) :: rest
    else (k, u) :: memInsert rest a v

/-- Every listed address is above `lo` and below 0x10000, and they rise strictly. -/
def memRising (lo : Nat) : List Host.Cell → Bool
  | [] => true
  | (k, _) :: rest => decide (lo ≤ k) && decide (k < 0x10000) && memRising (k + 1) rest

/-- The canonical form of memory: strictly rising addresses inside the address space. An address that is not listed
has not been written, so no entry can equal what it reads as (log entry 1). -/
def memWf (m : List Host.Cell) : Bool := memRising 0 m

/-- `MemRead(a, 1)` (rule R52): the byte last written at `a`, or the free initial byte (rule R45). -/
def State.read (s : State) (a : Word) : Byte := (memLookup s.mem a.toNat).getD (Config.initialByte a)

/-- `MemWrite(a, 1, v)` (rule R52). -/
def State.write (s : State) (a : Word) (v : Byte) : State := { s with mem := memInsert s.mem a.toNat v }

/-- `MemRead(a, 2)` (rules R7, R53): low byte at `a`, high byte at `a + 1`. -/
def State.readWord (s : State) (a : Word) : Word := joinBytes (s.read (a + 1)) (s.read a)

/-! ## Registers and flags -/

def State.setA (s : State) (v : Byte) : State := { s with a := v }
def State.setX (s : State) (v : Byte) : State := { s with x := v }
def State.setY (s : State) (v : Byte) : State := { s with y := v }
def State.setSp (s : State) (v : Byte) : State := { s with sp := v }
def State.setPc (s : State) (v : Word) : State := { s with pc := v }
def State.setP (s : State) (v : Byte) : State := { s with p := v }

/-- One flag of P. -/
def State.flag (s : State) (f : Flag) : Bool := getFlag s.p f

/-- `P.f <- val`. -/
def State.setFlag (s : State) (f : Flag) (val : Bool) : State := s.setP (putFlag s.p f val)

/-- `SetNZ(v)` (rule R120). -/
def State.setNZ (s : State) (v : Byte) : State := s.setP (putNZ s.p v)

/-- `P.C <- c', P.V <- v', SetNZ(r)` of a sum (rules R127, R131). -/
def State.setSum (s : State) (sum : Sum) : State := (s.setA sum.r).setP (putSum s.p sum)

/-- `Compare(reg, m)` (rule R123). -/
def State.compare (s : State) (reg m : Byte) : State := s.setP (putCompare s.p reg m)

/-! ## The stack (rules R170, R171) -/

/-- The stack slot a stack pointer names (rule R23). -/
def stackSlot (sp : Byte) : Word := stackBase + zext16 sp

/-- `Push(v)` (rule R170). -/
def State.push (s : State) (v : Byte) : State := (s.write (stackSlot s.sp) v).setSp (s.sp - 1)

/-- The byte `Pull()` returns (rule R171). -/
def State.pulled (s : State) : Byte := s.read (stackSlot (s.sp + 1))

/-- The state `Pull()` leaves (rule R171). -/
def State.dropTop (s : State) : State := s.setSp (s.sp + 1)

/-- Push a 16-bit address, high byte first (rule R53). -/
def State.pushWord (s : State) (w : Word) : State := (s.push (hiByte w)).push (loByte w)

/-! ## Outputs, program counter and free values -/

/-- Whether an opcode byte is a read-modify-write instruction of memory (rule R140), by the fields of rule R81: `aaa` is
neither 4 nor 5; with `cc` = 10 `bbb` is odd, with `cc` = 11 it is not 2. -/
def isRmw (op : Byte) : Bool :=
  let aaa := op.extractLsb' 5 3
  let bbb := op.extractLsb' 2 3
  op.getLsbD 1 && aaa != 4 && aaa != 5 && (if op.getLsbD 0 then bbb != 2 else bbb.getLsbD 0)

/-- `CYCLE_TABLE` (rule R420, U5): free but for what the rule fixes of every value of it, that the figure of a
read-modify-write instruction includes its extra cycles (log entry 10). -/
def cycleTable (op : Byte) (taken crossed : Bool) : Nat :=
  Config.baseCycles op taken crossed + if isRmw op then Config.rmwCyclesLessOne op + 1 else 0

/-- What every tick with status 0 does beside its effect (rules R25, R29, R31, R32, R301): IR, no store address,
status 0, the cycle cost, and PC past the instruction. -/
def retire (op : Byte) (len : Word) (taken crossed : Bool) (s : State) : State :=
  { s with
    pc := s.pc + len
    ir := op
    storadd := 0
    status := 0
    cycles := cycleTable op taken crossed }

/-- `addr` after an instruction without a memory operand: a fresh free value (rule R30, U2). -/
def freeAddr (s : State) : State := { s with addr := Config.freeAddr s.draws, draws := s.draws + 1 }

/-- An effective address: the address, whether indexing crossed a page (rule R420), and the instruction's length. -/
structure Access where
  ea : Word
  crossed : Bool
  len : Word
  deriving DecidableEq, Repr

/-- `retire` for an instruction with an effective address: `addr <- EA` (rule R30). -/
def retireAt (op : Byte) (acc : Access) (s : State) : State :=
  { retire op acc.len false acc.crossed s with addr := acc.ea }

/-! ## The shapes of instruction -/

/-- An instruction that reads its operand: `f operand` is its effect on the registers. -/
def readOp (op : Byte) (acc : Access) (operand : Byte) (f : Byte → State → State) (s : State) : Result :=
  .next (retireAt op acc (f operand s))

/-- A store instruction: it writes `v` at EA and reports the address (rule R31). -/
def storeOp (op : Byte) (acc : Access) (v : Byte) (s : State) : Result :=
  .next { retireAt op acc (s.write acc.ea v) with storadd := acc.ea }

/-- The read-modify-write pattern (rule R140): `new m` replaces the byte `m` at EA, then `after m` acts on the
registers. -/
def modifyOp (op : Byte) (acc : Access) (new : Byte → Byte) (after : Byte → State → State) (s : State) : Result :=
  let m := s.read acc.ea
  .next (retireAt op acc (after m (s.write acc.ea (new m))))

/-- A one-byte instruction that only changes registers, or memory through the stack. -/
def impliedOp (op : Byte) (f : State → State) (s : State) : Result :=
  .next (freeAddr (retire op 1 false false (f s)))

/-- A shift or rotate of memory (rules R140 to R144). -/
def shiftMemOp (op : Byte) (acc : Access) (shift : Byte → Bool → Shifted) (s : State) : Result :=
  let c := s.flag .c
  modifyOp op acc (fun m => (shift m c).r) (fun m t => (t.setFlag .c (shift m c).c).setNZ (shift m c).r) s

/-- A shift or rotate of A (rules R141 to R144). -/
def shiftAccOp (op : Byte) (shift : Byte → Bool → Shifted) (s : State) : Result :=
  let sh := shift s.a (s.flag .c)
  impliedOp op (fun t => ((t.setA sh.r).setFlag .c sh.c).setNZ sh.r) s

/-- A shift or rotate of memory whose result then goes through an accumulator operation that sees the new carry
(rules R240 to R243). -/
def shiftThenOp (op : Byte) (acc : Access) (shift : Byte → Bool → Shifted) (alu : Byte → State → State) (s : State) :
    Result :=
  let c := s.flag .c
  modifyOp op acc (fun m => (shift m c).r) (fun m t => alu (shift m c).r (t.setFlag .c (shift m c).c)) s

/-- An increment or decrement of memory (rules R147, R148). -/
def countMemOp (op : Byte) (acc : Access) (new : Byte → Byte) (s : State) : Result :=
  modifyOp op acc new (fun m t => t.setNZ (new m)) s

/-! ## Branches, jumps, calls -/

/-- The address a branch with this offset byte goes to (rule R96). -/
def branchTarget (pc : Word) (b : Byte) : Word := pc + 2 + sext16 b

/-- The branch pattern (rule R200). A page crossing counts only when the branch is taken (rule R420). -/
def branchOp (op : Byte) (b : Byte) (cond : Bool) (s : State) : Result :=
  let target := branchTarget s.pc b
  let crossed := cond && decide (hiByte target ≠ hiByte (s.pc + 2))
  let t := freeAddr (retire op 2 cond crossed s)
  .next (if cond then t.setPc target else t)

/-- A jump (rules R213, R214). -/
def jumpOp (op : Byte) (len target : Word) (s : State) : Result :=
  .next ((freeAddr (retire op len false false s)).setPc target)

/-- JSR (rule R210): push the address of the last byte, go to the target. -/
def callOp (op : Byte) (target : Word) (s : State) : Result :=
  .next ((freeAddr (retire op 3 false false (s.pushWord (s.pc + 2)))).setPc target)

/-- What BRK does to the stack, P and PC (rules R209, R304): the one place where the hardware saves state and goes
through a vector. -/
def softwareBreak (s : State) : State :=
  let t := ((s.pushWord (s.pc + 2)).push (s.p ||| s.params.pushOrMask)).setFlag .i true
  t.setPc (t.readWord brkVector)

/-- What RTI does when the stack is not empty (rules R211, R305): P, then PC, low byte first. -/
def returnFromBreak (s : State) : State :=
  let s1 := s.dropTop
  let s2 := s1.dropTop
  ((s2.dropTop).setP s.pulled).setPc (joinBytes s2.pulled s1.pulled)

/-- What RTS does when the stack is not empty (rule R212). -/
def returnFromCall (s : State) : State :=
  let s1 := s.dropTop
  (s1.dropTop).setPc (joinBytes s1.pulled s.pulled + 1)

/-- A tick that returns a sentinel (rule R301): IR, no store address, the status, free `cycles` and `addr` (U4), and
nothing else. -/
def sentinelOp (op status : Byte) (s : State) : Result :=
  .next (freeAddr { s with ir := op, storadd := 0, status := status, cycles := Config.freeCycles s.draws })

/-- A transfer whose target `f` puts into PC, with the outputs of a one-byte instruction (rules R209, R211, R212). -/
def transferOp (op : Byte) (f : State → State) (s : State) : Result :=
  let t := f s
  .next ((freeAddr (retire op 1 false false t)).setPc t.pc)

/-- A return that answers a sentinel on the empty stack (rules R211, R212, R301). -/
def returnOp (op sentinel : Byte) (f : State → State) (s : State) : Result :=
  if s.sp = spReset then sentinelOp op sentinel s else transferOp op f s

end Sys2Proof.Machine
end

