-- ==== Sys2Proof/Machine/Window.lean ====
section
/-! DEFINITION. The register window of a chip (60_exceptions.md rules R331 to R335): the fields `emulate` reads, at the
offsets and bit positions of rules R331 and R332. Bits a field does not use are ignored (rules R68, R334). -/

namespace Sys2Proof.Machine

/-- The registers of one voice. -/
structure VoiceRegs where
  /-- `FREQ`, 16 bits. -/
  freq : BitVec 16
  /-- `PW`, 12 bits. -/
  pw : BitVec 12
  /-- `CTRL`. -/
  ctrl : Byte
  /-- `AD`: attack rate, decay rate. -/
  ad : Byte
  /-- `SR`: sustain level, release rate. -/
  sr : Byte
  deriving DecidableEq, Repr

/-- The registers of one chip. -/
structure ChipRegs where
  voice0 : VoiceRegs
  voice1 : VoiceRegs
  voice2 : VoiceRegs
  /-- `FC`, 11 bits. -/
  fc : BitVec 11
  /-- `RES_FILT`. -/
  resFilt : Byte
  /-- `MODE_VOL`. -/
  modeVol : Byte
  deriving DecidableEq, Repr

/-- The high nibble of a byte, `v[7:4]`. -/
def hiNibble (v : Byte) : BitVec 4 := v.extractLsb' 4 4

/-- The low nibble of a byte, `v[3:0]`. -/
def loNibble (v : Byte) : BitVec 4 := v.extractLsb' 0 4

/-- The first register of a voice: the window offset `7v` (rule R331). -/
def voiceOffset : Voice → Word
  | .voice0 => 0
  | .voice1 => 7
  | .voice2 => 14

/-- The registers of a voice whose first register is at `first` (rule R331). -/
def readVoice (s : State) (first : Word) : VoiceRegs where
  freq := joinBytes (s.read (first + 1)) (s.read first)
  pw := loNibble (s.read (first + 3)) ++ s.read (first + 2)
  ctrl := s.read (first + 4)
  ad := s.read (first + 5)
  sr := s.read (first + 6)

/-- The registers of the chip whose window begins at `base` (rules R67, R331). -/
def readWindow (s : State) (base : Word) : ChipRegs where
  voice0 := readVoice s (base + voiceOffset .voice0)
  voice1 := readVoice s (base + voiceOffset .voice1)
  voice2 := readVoice s (base + voiceOffset .voice2)
  fc := s.read (base + 0x16) ++ (s.read (base + 0x15)).extractLsb' 0 3
  resFilt := s.read (base + 0x17)
  modeVol := s.read (base + 0x18)

/-- The registers of voice `v`. -/
def ChipRegs.voice (r : ChipRegs) : Voice → VoiceRegs
  | .voice0 => r.voice0
  | .voice1 => r.voice1
  | .voice2 => r.voice2

/-! ## The bits of CTRL (rule R332) -/

def VoiceRegs.gateBit (r : VoiceRegs) : Bool := r.ctrl.getLsbD 0
def VoiceRegs.syncBit (r : VoiceRegs) : Bool := r.ctrl.getLsbD 1
def VoiceRegs.ringBit (r : VoiceRegs) : Bool := r.ctrl.getLsbD 2
def VoiceRegs.testBit (r : VoiceRegs) : Bool := r.ctrl.getLsbD 3
def VoiceRegs.triBit (r : VoiceRegs) : Bool := r.ctrl.getLsbD 4
def VoiceRegs.sawBit (r : VoiceRegs) : Bool := r.ctrl.getLsbD 5
def VoiceRegs.pulseBit (r : VoiceRegs) : Bool := r.ctrl.getLsbD 6
def VoiceRegs.noiseBit (r : VoiceRegs) : Bool := r.ctrl.getLsbD 7

/-! ## The bits of RES_FILT and MODE_VOL (rule R331) -/

/-- The filter-enable bit of a voice. -/
def ChipRegs.filtered (r : ChipRegs) : Voice → Bool
  | .voice0 => r.resFilt.getLsbD 0
  | .voice1 => r.resFilt.getLsbD 1
  | .voice2 => r.resFilt.getLsbD 2

/-- Whether a voice is cut off from the unfiltered sum: voice 2 by its disconnect bit, no other voice. -/
def ChipRegs.disconnected (r : ChipRegs) : Voice → Bool
  | .voice0 => false
  | .voice1 => false
  | .voice2 => r.modeVol.getLsbD 7

end Sys2Proof.Machine
end

