-- ==== Sys2Proof/Machine/Envelope.lean ====
section
/-! DEFINITION. The envelope generator of one channel (60_exceptions.md rules R340 to R349), one sample. The numbers
come from a `DevConfig`. -/

namespace Sys2Proof.Machine

/-- `x` modulo `m` for rationals, in [0, m) when m is positive: the masking of rule R42 for the counters of rule R37
that hold a fraction. -/
def ratMod (x m : Rat) : Rat := x - m * ((x / m).floor : Rat)

/-- A rising edge of the gate (rule R341). -/
def gateRises (r : VoiceRegs) (ch : Channel) : Bool := r.gateBit && !ch.gate

/-- The gate edges (rule R341): a rising edge starts attack and frees hold-zero, a falling edge starts release. -/
def gateEdge (r : VoiceRegs) (ch : Channel) : Channel :=
  if r.gateBit = ch.gate then ch
  else if r.gateBit then { ch with gate := true, attack := true, decaysustain := true, holdzero := false }
  else { ch with gate := false, attack := false, decaysustain := false }

/-- The delay bug (rule R344): the comparison of this sample is suppressed when a rising edge is seen and the release
nibble is above that of the previous sample. -/
def delayBug (r : VoiceRegs) (ch : Channel) : Bool :=
  gateRises r ch && decide (loNibble ch.prevSR < loNibble r.sr)

/-- The rate counter's advance (rule R342): plus `CLK_RATIO`, wrapped at 0x8000. The remainder is the identity for
every `CLK_RATIO` up to 0x8000; above it, it keeps the counter in the range of rule R37 (rule R42; log entry 12). -/
def rateAdvance (cfg : DevConfig) (ratecnt : Rat) : Rat :=
  let n := ratecnt + cfg.clkRatio
  if n ≥ 0x8000 then ratMod (n - 0x8000) 0x8000 else n

/-- The rate nibble in force (rule R343). -/
def rateNibble (r : VoiceRegs) (ch : Channel) : BitVec 4 :=
  if ch.attack then hiNibble r.ad else if ch.decaysustain then loNibble r.ad else loNibble r.sr

/-- `ADSR_STEP[rate]` (rule R343): 1 for every rate but 0. -/
def rateStep (cfg : DevConfig) (rate : BitVec 4) : Nat := if rate = 0 then cfg.adsrStepZero else 1

/-- The sustain level (rule R347): the nibble in both halves of a byte. -/
def sustainLevel (r : VoiceRegs) : Nat := (hiNibble r.sr).toNat * 17

/-- The envelope counter's step up (rule R347): it stops at 0xFF, where attack ends. -/
def envelopeUp (step : Nat) (ch : Channel) : Channel :=
  if ch.envcnt.toNat + step ≥ 0xFF then { ch with envcnt := 0xFF, attack := false }
  else { ch with envcnt := BitVec.ofNat 8 (ch.envcnt.toNat + step) }

/-- The envelope counter's step down (rule R347): reaching 0 latches hold-zero. From 0 it stays at 0, as rule R348
requires of every realisation (log entry 11). -/
def envelopeDown (step : Nat) (ch : Channel) : Channel :=
  if ch.envcnt = 0 then ch
  else if ch.envcnt.toNat ≤ step then { ch with envcnt := 0, holdzero := true }
  else { ch with envcnt := BitVec.ofNat 8 (ch.envcnt.toNat - step) }

/-- What a fired step does to the counter (rule R347): nothing under hold-zero; up in attack; down in release, and in
decay while the counter is above the sustain level. -/
def envelopeMove (cfg : DevConfig) (r : VoiceRegs) (rate : BitVec 4) (ch : Channel) : Channel :=
  if ch.holdzero then ch
  else if ch.attack then envelopeUp (rateStep cfg rate) ch
  else if !ch.decaysustain || decide (sustainLevel r < ch.envcnt.toNat) then envelopeDown (rateStep cfg rate) ch
  else ch

/-- The period was reached (rules R346, R347): in attack the counter moves; otherwise the sub-counter advances and
decides whether it does. -/
def envelopeFire (cfg : DevConfig) (r : VoiceRegs) (ch : Channel) : Channel :=
  let rate := rateNibble r ch
  if ch.attack then { envelopeMove cfg r rate ch with expcnt := 0 }
  else
    let n := ch.expcnt + 1
    if n.toNat = cfg.adsrExpPeriod ch.envcnt then { envelopeMove cfg r rate ch with expcnt := 0 }
    else { ch with expcnt := n }

/-- The comparison window of rule R347, and the period taken off the rate counter when it is met. -/
def candidateRate (i : RateInput) : RateOutput :=
  if i.period ≤ i.ratecnt ∧ i.ratecnt < i.period + i.clkRatio then { reached := true, ratecnt := i.ratecnt - i.period }
  else { reached := false, ratecnt := i.ratecnt }

/-- The rate comparison of a sample with the period of rule R343: the candidate of rule R347, or another (U9; log entry
15), whose rate counter is kept in the range of rule R37. `before` is the rate counter before its advance. -/
def rateCompare (cfg : DevConfig) (r : VoiceRegs) (before : Rat) (ch : Channel) : RateOutput :=
  let i : RateInput :=
    { period := cfg.adsrPeriod (rateNibble r ch), clkRatio := cfg.clkRatio, before := before, ratecnt := ch.ratecnt }
  match cfg.rateRealisation with
  | none => candidateRate i
  | some f => { f i with ratecnt := ratMod (f i).ratecnt 0x8000 }

/-- What the comparison does to the channel (rules R343, R347). -/
def envelopeCompare (cfg : DevConfig) (r : VoiceRegs) (before : Rat) (ch : Channel) : Channel :=
  let o := rateCompare cfg r before ch
  let ch1 := { ch with ratecnt := o.ratecnt }
  if o.reached then envelopeFire cfg r ch1 else ch1

/-- The envelope step of one channel for one sample (rules R341 to R347): the gate edge and the delay-bug test, the
snapshot of SR, the rate counter, then the comparison unless the delay bug suppresses it (rule R344), whatever the
realisation. -/
def envelopeStep (cfg : DevConfig) (r : VoiceRegs) (ch : Channel) : Channel :=
  let ch1 := { gateEdge r ch with prevSR := r.sr, ratecnt := rateAdvance cfg ch.ratecnt }
  if delayBug r ch then ch1 else envelopeCompare cfg r ch.ratecnt ch1

end Sys2Proof.Machine
end

