-- ==== Sys2Proof/Machine/Waveform.lean ====
section
/-! DEFINITION. The phase accumulator and the waveform generator of one channel (60_exceptions.md rules R350 to R360),
one sample. -/

namespace Sys2Proof.Machine

/-- `int(phase)` as a 24-bit value (rule R350). -/
def phaseBits (phase : Rat) : BitVec 24 := BitVec.ofInt 24 phase.floor

/-- The step `add` of the phase accumulator (rule R350). -/
def phaseStep (cfg : DevConfig) (r : VoiceRegs) : Rat := (r.freq.toNat : Rat) * cfg.clkRatio

/-- The phase of this sample (rules R350 to R352): 0 under the test bit, 0 when synchronised to a rising MSB of the
voice before, else advanced modulo 2^24. -/
def nextPhase (cfg : DevConfig) (r : VoiceRegs) (msbRise : Bool) (prevphase : Rat) : Rat :=
  if r.testBit then 0
  else if r.syncBit && msbRise then 0
  else ratMod (prevphase + phaseStep cfg r) 0x1000000

/-- The folded triangle value (rule R354), ring-modulated by the MSB of the voice before. -/
def triangle (phase : BitVec 24) (ring srcMSB : Bool) : BitVec 16 :=
  let t := if ring && srcMSB then phase ^^^ 0x800000 else phase
  (if t.getLsbD 23 then t ^^^ 0xFFFFFF else t).extractLsb' 7 16

/-- The sawtooth output (rule R355): the high bits, corrected unless the step is 0. -/
def sawtooth (cfg : DevConfig) (phase : BitVec 24) (add : Rat) : BitVec 16 :=
  let saw := phase.extractLsb' 8 16
  if add = 0 then saw else cfg.sawCorrect saw add

/-- `PW * 16` (rule R356). -/
def pulseWidth (r : VoiceRegs) : BitVec 16 := r.pw ++ (0 : BitVec 4)

/-- The pulse comparison (rule R356): high from the width on, and under the test bit. -/
def pulseHigh (r : VoiceRegs) (phase : BitVec 24) : Bool :=
  decide (pulseWidth r ≤ phase.extractLsb' 8 16) || r.testBit

/-- The pulse output (rule R356): all ones or zero, but near an edge what the correction gives. -/
def pulse (cfg : DevConfig) (r : VoiceRegs) (phase : BitVec 24) (add : Rat) : BitVec 16 :=
  let ph := phase.extractLsb' 8 16
  if cfg.pulseNearEdge ph (pulseWidth r) add then cfg.pulseEdge ph (pulseWidth r) add r.testBit
  else if pulseHigh r phase then 0xFFFF else 0

/-- The exclusive or of the bits of a register that `taps` selects (rule R357). -/
def tapParity (taps lfsr : BitVec 23) : Bool :=
  (List.range 23).foldl (fun b i => b ^^ (taps &&& lfsr).getLsbD i) false

/-- One clocking of the noise register (rule R357): a Fibonacci-style shift by one, the exclusive or of the taps fed in
at bit 0. What the test bit feeds in instead is open (log entry 16). -/
def noiseShift (cfg : DevConfig) (test : Bool) (lfsr : BitVec 23) : BitVec 23 :=
  (lfsr <<< 1) |||
    (BitVec.ofBool (if test then cfg.noiseTestFeed lfsr else tapParity cfg.noiseTaps lfsr)).zeroExtend 23

/-- The noise register after this sample (rule R357). -/
def nextLfsr (cfg : DevConfig) (r : VoiceRegs) (phase prev : BitVec 24) (add : Rat) (lfsr : BitVec 23) : BitVec 23 :=
  if cfg.noiseClocked (hiNibble r.ctrl) phase prev add then noiseShift cfg r.testBit lfsr else lfsr

/-- The table of a combination (rule R359): pulse and triangle use the table of pulse and sawtooth. -/
def tableOf : Combo → CombinedTable
  | .triSaw => .triSaw
  | .pulseTri => .pulseSaw
  | .pulseSaw => .pulseSaw
  | .pulseTriSaw => .pulseTriSaw

/-- Whether a combination has PULSE among its bits. -/
def comboHasPulse : Combo → Bool
  | .triSaw => false
  | .pulseTri => true
  | .pulseSaw => true
  | .pulseTriSaw => true

/-- The 12-bit index of a combination (rule R359): high bits of the phase or of the folded triangle value; on the 6581
the upper bit is masked for every combination but pulse and triangle. -/
def combinedIndex (cfg : DevConfig) (model : ChipModel) (combo : Combo) (phase : BitVec 24) (fold : BitVec 16) :
    BitVec 12 :=
  let index := if cfg.combinedFolded combo then fold.extractLsb' 4 12 else phase.extractLsb' 12 12
  match model, combo with
  | .m6581, .pulseTri => index
  | .m6581, .triSaw => index &&& 0x7FF
  | .m6581, .pulseSaw => index &&& 0x7FF
  | .m6581, .pulseTriSaw => index &&& 0x7FF
  | .m8580, _ => index

/-- The average with the previous combined sample (rule R359), a whole number. -/
def combinedAverage (cfg : DevConfig) (entry prev : BitVec 16) : BitVec 16 :=
  let sum := entry.toNat + prev.toNat
  BitVec.ofNat 16 (if cfg.combinedRoundUp then (sum + 1) / 2 else sum / 2)

/-- What a voice puts out and what it remembers of the combined tables. -/
structure WaveOut where
  wfout : BitVec 16
  prevwavdata : BitVec 16
  deriving DecidableEq, Repr

/-- The output of a combined waveform (rule R359): 0, with the table not used, while a selected pulse is low. -/
def combined (cfg : DevConfig) (model : ChipModel) (r : VoiceRegs) (combo : Combo) (phase : BitVec 24)
    (fold prevwavdata : BitVec 16) : WaveOut :=
  if comboHasPulse combo && !pulseHigh r phase then { wfout := 0, prevwavdata := prevwavdata }
  else
    let entry := cfg.combinedTable (tableOf combo) (combinedIndex cfg model combo phase fold)
    { wfout := combinedAverage cfg entry prevwavdata, prevwavdata := entry }

/-- The folded triangle value a combination may be indexed by (rule R359). The rule does not say whether ring modulation
applies to it: that is free (log entry 17). -/
def combinedFold (cfg : DevConfig) (r : VoiceRegs) (srcMSB : Bool) (phase : BitVec 24) (combo : Combo) : BitVec 16 :=
  triangle phase (r.ringBit && cfg.combinedRing combo) srcMSB

/-- The waveform output (rule R353): one base waveform, a combination, noise with another waveform (0, rule R357), or
none (the previous sample is held, rule R360). -/
def waveOut (cfg : DevConfig) (model : ChipModel) (r : VoiceRegs) (srcMSB : Bool) (phase : BitVec 24) (add : Rat)
    (lfsr : BitVec 23) (prevwfout prevwavdata : BitVec 16) : WaveOut :=
  let fold := triangle phase r.ringBit srcMSB
  let combo := fun c => combined cfg model r c phase (combinedFold cfg r srcMSB phase c) prevwavdata
  let plain := fun w => { wfout := w, prevwavdata := prevwavdata : WaveOut }
  match r.noiseBit, r.pulseBit, r.sawBit, r.triBit with
  | false, false, false, false => plain prevwfout
  | false, false, false, true => plain fold
  | false, false, true, false => plain (sawtooth cfg phase add)
  | false, false, true, true => combo .triSaw
  | false, true, false, false => plain (pulse cfg r phase add)
  | false, true, false, true => combo .pulseTri
  | false, true, true, false => combo .pulseSaw
  | false, true, true, true => combo .pulseTriSaw
  | true, false, false, false => plain (cfg.noiseOut lfsr)
  | true, _, _, _ => plain 0

/-- What the waveform step of a voice leaves: the channel, and the flags the next voice sees (rule R352). -/
structure VoiceStep where
  ch : Channel
  srcMSB : Bool
  srcMSBrise : Bool
  deriving DecidableEq, Repr

/-- The waveform step of one channel for one sample (rules R350 to R360). `srcMSB` and `srcMSBrise` are the chip's
flags as the voice before left them. -/
def waveStep (cfg : DevConfig) (model : ChipModel) (r : VoiceRegs) (srcMSB srcMSBrise : Bool) (ch : Channel) :
    VoiceStep :=
  let add := phaseStep cfg r
  let phase := nextPhase cfg r srcMSBrise ch.prevphase
  let now := phaseBits phase
  let before := phaseBits ch.prevphase
  let lfsr := nextLfsr cfg r now before add ch.lfsr
  let w := waveOut cfg model r srcMSB now add lfsr ch.prevwfout ch.prevwavdata
  { ch := { ch with phase := phase, prevphase := phase, lfsr := lfsr, prevwfout := w.wfout, prevwavdata := w.prevwavdata }
    srcMSB := now.getLsbD 23
    srcMSBrise := now.getLsbD 23 && !before.getLsbD 23 }

end Sys2Proof.Machine
end

