-- ==== Sys2Proof/Machine/Device.lean ====
section
/-! DEFINITION. The sound device (60_exceptions.md Part C): routing, filter and mixer (rules R370 to R382), the step
`emulate` of one chip (rule R338), and `chip_init` (10_state.md rule R44). -/

namespace Sys2Proof.Machine

/-! ## Routing (rule R370) -/

/-- The signal of a channel: its waveform output about the middle, scaled by its envelope. -/
def signal (ch : Channel) : Rat := ((ch.prevwfout.toNat : Rat) - 0x8000) * (ch.envcnt.toNat : Rat) / 256

/-- What a voice adds to the filter input. -/
def toFilter (r : ChipRegs) (v : Voice) (ch : Channel) : Rat := if r.filtered v then signal ch else 0

/-- What a voice adds to the unfiltered sum. -/
def toDirect (r : ChipRegs) (v : Voice) (ch : Channel) : Rat :=
  if r.filtered v || r.disconnected v then 0 else signal ch

/-! ## Filter (rules R371, R372) -/

/-- What one filter step leaves: the two integrators and the summed output. -/
structure FilterStep where
  lowpass : Rat
  bandpass : Rat
  filtout : Rat
  deriving DecidableEq, Repr

/-- One step of the two-integrator loop with coefficients `w` and `q` (rule R371); the mode bits select the taps. -/
def filterStep (w q : Rat) (modeVol : Byte) (lowpass bandpass filtin : Rat) : FilterStep :=
  let hp := filtin + bandpass * q + lowpass
  let bp := bandpass - hp * w
  let lp := lowpass + bp * w
  { lowpass := lp
    bandpass := bp
    filtout := (if modeVol.getLsbD 6 then -hp else 0) + (if modeVol.getLsbD 5 then -bp else 0) +
      (if modeVol.getLsbD 4 then lp else 0) }

/-! ## Mixer (rules R380, R381) -/

/-- The output of a chip (rule R380). -/
def mix (cfg : DevConfig) (modeVol : Byte) (direct filtout : Rat) : Rat :=
  (direct + filtout) * ((loNibble modeVol).toNat : Rat) / cfg.outputNorm

/-- `ATTENUATION[NCHIPS]` (rule R381). -/
def attenuation : ChipCount → Rat
  | .one => 1
  | .two => 3 / 5
  | .three => 2 / 5

/-- The host's sample (rule R381): the sum over the active chips, attenuated once. -/
def State.mixedSample (s : State) : Rat :=
  match s.chipCount with
  | .one => s.chip0.out * attenuation .one
  | .two => (s.chip0.out + s.chip1.out) * attenuation .two
  | .three => (s.chip0.out + s.chip1.out + s.chip2.out) * attenuation .three

/-! ## One sample of one chip (rule R338) -/

/-- The envelope step, then the waveform step, of one voice. -/
def voiceStep (cfg : DevConfig) (model : ChipModel) (r : VoiceRegs) (srcMSB srcMSBrise : Bool) (ch : Channel) :
    VoiceStep := waveStep cfg model r srcMSB srcMSBrise (envelopeStep cfg r ch)

/-- One sample of a chip: voices 0, 1, 2 in order, each seeing the flags of the one before (rule R352), then the filter
and the mixer. -/
def chipStep (cfg : DevConfig) (r : ChipRegs) (c : Chip) : Chip :=
  let v0 := voiceStep cfg c.model r.voice0 c.srcMSB c.srcMSBrise c.voice0
  let v1 := voiceStep cfg c.model r.voice1 v0.srcMSB v0.srcMSBrise c.voice1
  let v2 := voiceStep cfg c.model r.voice2 v1.srcMSB v1.srcMSBrise c.voice2
  let filtin := toFilter r .voice0 v0.ch + toFilter r .voice1 v1.ch + toFilter r .voice2 v2.ch
  let direct := toDirect r .voice0 v0.ch + toDirect r .voice1 v1.ch + toDirect r .voice2 v2.ch
  let f := filterStep (cfg.cutoffCurve c.model r.fc) (cfg.resonanceMap c.model (hiNibble r.resFilt)) r.modeVol
    c.lowpass c.bandpass filtin
  { c with
    voice0 := v0.ch
    voice1 := v1.ch
    voice2 := v2.ch
    srcMSB := v2.srcMSB
    srcMSBrise := v2.srcMSBrise
    lowpass := f.lowpass
    bandpass := f.bandpass
    out := mix cfg r.modeVol direct f.filtout }

/-! ## The device in the state -/

/-- Chip `i`. -/
def State.chip (s : State) : ChipIndex → Chip
  | .chip0 => s.chip0
  | .chip1 => s.chip1
  | .chip2 => s.chip2

/-- The state with chip `i` replaced. -/
def State.setChip (s : State) (i : ChipIndex) (c : Chip) : State :=
  match i with
  | .chip0 => { s with chip0 := c }
  | .chip1 => { s with chip1 := c }
  | .chip2 => { s with chip2 := c }

/-- `i < NCHIPS`. -/
def chipActive : ChipCount → ChipIndex → Bool
  | _, .chip0 => true
  | .one, .chip1 => false
  | .two, .chip1 => true
  | .three, .chip1 => true
  | .one, .chip2 => false
  | .two, .chip2 => false
  | .three, .chip2 => true

/-- The four read-back bytes of a window hold fresh free values (rule R335, U7). -/
def freeReadBack (base : Word) (s : State) : State :=
  let n := s.draws
  let t := (((s.write (base + 0x19) (Config.freeByte n)).write (base + 0x1A) (Config.freeByte (n + 1))).write
    (base + 0x1B) (Config.freeByte (n + 2))).write (base + 0x1C) (Config.freeByte (n + 3))
  { t with draws := n + 4 }

/-- `emulate(i, base)` (rule R338) with the numbers `cfg`: the window is read once, chip `i` advances one sample. -/
def emulateWith (cfg : DevConfig) (i : ChipIndex) (base : Word) (s : State) : State :=
  freeReadBack base (s.setChip i (chipStep cfg (readWindow s base) (s.chip i)))

/-- `emulate(i, base)` of this machine (rules R312, R338, R406): refused before `chip_init` and for a chip that is not
active. -/
def emulate (i : ChipIndex) (base : Word) (s : State) : Result :=
  if s.devReady then
    if chipActive s.chipCount i then .next (emulateWith Config.dev i base s) else .refused .chipNotActive
  else .refused .emulateBeforeChipInit

/-! ## Device reset (rules R44, R403) -/

/-- `n` bytes from `a` on set to 0, wrapping at the top of memory (rule R51). -/
def zeroBytes : Nat → Word → State → State
  | 0, _, s => s
  | n + 1, a, s => zeroBytes n (a + 1) (s.write a 0)

/-- The window of a chip set to 0 if the chip is active (rule R44). -/
def zeroWindow (i : ChipIndex) (s : State) : State :=
  if chipActive s.chipCount i then zeroBytes windowLength (s.chip i).base s else s

/-- A chip's state after `chip_init`. -/
def resetChip (c : Chip) : Chip := Chip.reset c.model c.base c.out

/-- `chip_init()` (rules R44, R403): the windows of the active chips to 0, every channel to hold-zero. -/
def chipInit (s : State) : State :=
  let t := zeroWindow .chip2 (zeroWindow .chip1 (zeroWindow .chip0 s))
  { t with chip0 := resetChip s.chip0, chip1 := resetChip s.chip1, chip2 := resetChip s.chip2, devReady := true }

end Sys2Proof.Machine
end

