-- ==== Sys2Proof/Machine/Operands.lean ====
section
/-! DEFINITION. The addressing modes with an effective address (30_encoding.md rules R86 to R95). `s` is the state
before the instruction, so `s.pc` is the address of its opcode byte; the operand bytes are those of the decoded
instruction (20_memory.md rule R64). -/

namespace Sys2Proof.Machine

/-- `v & ZPM` (rule R84 preamble): the low byte of a zero-page sum when `ZP_WRAP` is true, all of it otherwise. -/
def zpMask (s : State) (v : Word) : Word := if s.params.zpWrap then v &&& 0xFF else v

/-- A pointer whose two bytes are fetched with the zero-page rule (rules R93, R94). -/
def zpPointer (s : State) (p : Word) : Word := joinBytes (s.read (zpMask s (p + 1))) (s.read p)

/-- Whether two addresses lie in different pages (rule R420). -/
def pageCrossed (base ea : Word) : Bool := decide (hiByte base ≠ hiByte ea)

/-- `zp` (rule R87). -/
def eaZp (b : Byte) : Word := zext16 b

/-- `zp,X` (rule R88). -/
def eaZpx (s : State) (b : Byte) : Word := zpMask s (zext16 b + zext16 s.x)

/-- `zp,Y` (rule R89). -/
def eaZpy (s : State) (b : Byte) : Word := zpMask s (zext16 b + zext16 s.y)

/-- `abs,X` (rule R91). -/
def eaAbx (s : State) (w : Word) : Word := w + zext16 s.x

/-- `abs,Y` (rule R92). -/
def eaAby (s : State) (w : Word) : Word := w + zext16 s.y

/-- `(zp,X)` (rule R93). -/
def eaIzx (s : State) (b : Byte) : Word := zpPointer s (zpMask s (zext16 b + zext16 s.x))

/-- The base of `(zp),Y` before Y is added (rule R94). -/
def baseIzy (s : State) (b : Byte) : Word := zpPointer s (zext16 b)

/-- `(zp),Y` (rule R94). -/
def eaIzy (s : State) (b : Byte) : Word := baseIzy s b + zext16 s.y

/-- The target of JMP (abs) (rule R95). -/
def indirectTarget (s : State) (p : Word) : Word :=
  if s.params.jmpIndPageWrap then joinBytes (s.read (joinBytes (hiByte p) (loByte p + 1))) (s.read p)
  else s.readWord p

/-- The access of an immediate operand: EA is the address of the operand byte (rule R86). -/
def accImm (s : State) : Access := { ea := s.pc + 1, crossed := false, len := 2 }

def accZp (b : Byte) : Access := { ea := eaZp b, crossed := false, len := 2 }
def accZpx (b : Byte) (s : State) : Access := { ea := eaZpx s b, crossed := false, len := 2 }
def accZpy (b : Byte) (s : State) : Access := { ea := eaZpy s b, crossed := false, len := 2 }
def accAbs (w : Word) : Access := { ea := w, crossed := false, len := 3 }
def accAbx (w : Word) (s : State) : Access := { ea := eaAbx s w, crossed := pageCrossed w (eaAbx s w), len := 3 }
def accAby (w : Word) (s : State) : Access := { ea := eaAby s w, crossed := pageCrossed w (eaAby s w), len := 3 }
def accIzx (b : Byte) (s : State) : Access := { ea := eaIzx s b, crossed := false, len := 2 }
def accIzy (b : Byte) (s : State) : Access :=
  { ea := eaIzy s b, crossed := pageCrossed (baseIzy s b) (eaIzy s b), len := 2 }

/-! ## Reading instructions by mode -/

/-- An instruction with an immediate operand (rule R86). -/
def readImm (op b : Byte) (f : Byte → State → State) (s : State) : Result := readOp op (accImm s) b f s

/-- An instruction whose operand is `MemRead(EA, 1)` (rule R7). -/
def readMem (op : Byte) (acc : Access) (f : Byte → State → State) (s : State) : Result :=
  readOp op acc (s.read acc.ea) f s

end Sys2Proof.Machine
end

