-- ==== Sys2Proof/Machine/Alu.lean ====
section
/-! DEFINITION. The accumulator/ALU instructions (40_alu.md rules R124 to R131): ORA AND EOR ADC STA LDA CMP SBC. The
D flag is not read (rule R134). -/

namespace Sys2Proof.Machine

/-- ORA (rule R124). -/
def opOra (v : Byte) (s : State) : State := (s.setA (s.a ||| v)).setNZ (s.a ||| v)

/-- 0x01 `ORA (zp,X)` (rules R124, R93). -/
def execOraIzx (b : Byte) (s : State) : Result := readMem 0x01 (accIzx b s) opOra s

/-- 0x05 `ORA zp` (rules R124, R87). -/
def execOraZp (b : Byte) (s : State) : Result := readMem 0x05 (accZp b) opOra s

/-- 0x09 `ORA #` (rules R124, R86). -/
def execOraImm (b : Byte) (s : State) : Result := readImm 0x09 b opOra s

/-- 0x0D `ORA abs` (rules R124, R90). -/
def execOraAbs (w : Word) (s : State) : Result := readMem 0x0D (accAbs w) opOra s

/-- 0x11 `ORA (zp),Y` (rules R124, R94). -/
def execOraIzy (b : Byte) (s : State) : Result := readMem 0x11 (accIzy b s) opOra s

/-- 0x15 `ORA zp,X` (rules R124, R88). -/
def execOraZpx (b : Byte) (s : State) : Result := readMem 0x15 (accZpx b s) opOra s

/-- 0x19 `ORA abs,Y` (rules R124, R92). -/
def execOraAby (w : Word) (s : State) : Result := readMem 0x19 (accAby w s) opOra s

/-- 0x1D `ORA abs,X` (rules R124, R91). -/
def execOraAbx (w : Word) (s : State) : Result := readMem 0x1D (accAbx w s) opOra s

/-- AND (rule R125). -/
def opAnd (v : Byte) (s : State) : State := (s.setA (s.a &&& v)).setNZ (s.a &&& v)

/-- 0x21 `AND (zp,X)` (rules R125, R93). -/
def execAndIzx (b : Byte) (s : State) : Result := readMem 0x21 (accIzx b s) opAnd s

/-- 0x25 `AND zp` (rules R125, R87). -/
def execAndZp (b : Byte) (s : State) : Result := readMem 0x25 (accZp b) opAnd s

/-- 0x29 `AND #` (rules R125, R86). -/
def execAndImm (b : Byte) (s : State) : Result := readImm 0x29 b opAnd s

/-- 0x2D `AND abs` (rules R125, R90). -/
def execAndAbs (w : Word) (s : State) : Result := readMem 0x2D (accAbs w) opAnd s

/-- 0x31 `AND (zp),Y` (rules R125, R94). -/
def execAndIzy (b : Byte) (s : State) : Result := readMem 0x31 (accIzy b s) opAnd s

/-- 0x35 `AND zp,X` (rules R125, R88). -/
def execAndZpx (b : Byte) (s : State) : Result := readMem 0x35 (accZpx b s) opAnd s

/-- 0x39 `AND abs,Y` (rules R125, R92). -/
def execAndAby (w : Word) (s : State) : Result := readMem 0x39 (accAby w s) opAnd s

/-- 0x3D `AND abs,X` (rules R125, R91). -/
def execAndAbx (w : Word) (s : State) : Result := readMem 0x3D (accAbx w s) opAnd s

/-- EOR (rule R126). -/
def opEor (v : Byte) (s : State) : State := (s.setA (s.a ^^^ v)).setNZ (s.a ^^^ v)

/-- 0x41 `EOR (zp,X)` (rules R126, R93). -/
def execEorIzx (b : Byte) (s : State) : Result := readMem 0x41 (accIzx b s) opEor s

/-- 0x45 `EOR zp` (rules R126, R87). -/
def execEorZp (b : Byte) (s : State) : Result := readMem 0x45 (accZp b) opEor s

/-- 0x49 `EOR #` (rules R126, R86). -/
def execEorImm (b : Byte) (s : State) : Result := readImm 0x49 b opEor s

/-- 0x4D `EOR abs` (rules R126, R90). -/
def execEorAbs (w : Word) (s : State) : Result := readMem 0x4D (accAbs w) opEor s

/-- 0x51 `EOR (zp),Y` (rules R126, R94). -/
def execEorIzy (b : Byte) (s : State) : Result := readMem 0x51 (accIzy b s) opEor s

/-- 0x55 `EOR zp,X` (rules R126, R88). -/
def execEorZpx (b : Byte) (s : State) : Result := readMem 0x55 (accZpx b s) opEor s

/-- 0x59 `EOR abs,Y` (rules R126, R92). -/
def execEorAby (w : Word) (s : State) : Result := readMem 0x59 (accAby w s) opEor s

/-- 0x5D `EOR abs,X` (rules R126, R91). -/
def execEorAbx (w : Word) (s : State) : Result := readMem 0x5D (accAbx w s) opEor s

/-- ADC (rule R127). -/
def opAdc (v : Byte) (s : State) : State := s.setSum (addCore s.a v (s.flag .c))

/-- 0x61 `ADC (zp,X)` (rules R127, R93). -/
def execAdcIzx (b : Byte) (s : State) : Result := readMem 0x61 (accIzx b s) opAdc s

/-- 0x65 `ADC zp` (rules R127, R87). -/
def execAdcZp (b : Byte) (s : State) : Result := readMem 0x65 (accZp b) opAdc s

/-- 0x69 `ADC #` (rules R127, R86). -/
def execAdcImm (b : Byte) (s : State) : Result := readImm 0x69 b opAdc s

/-- 0x6D `ADC abs` (rules R127, R90). -/
def execAdcAbs (w : Word) (s : State) : Result := readMem 0x6D (accAbs w) opAdc s

/-- 0x71 `ADC (zp),Y` (rules R127, R94). -/
def execAdcIzy (b : Byte) (s : State) : Result := readMem 0x71 (accIzy b s) opAdc s

/-- 0x75 `ADC zp,X` (rules R127, R88). -/
def execAdcZpx (b : Byte) (s : State) : Result := readMem 0x75 (accZpx b s) opAdc s

/-- 0x79 `ADC abs,Y` (rules R127, R92). -/
def execAdcAby (w : Word) (s : State) : Result := readMem 0x79 (accAby w s) opAdc s

/-- 0x7D `ADC abs,X` (rules R127, R91). -/
def execAdcAbx (w : Word) (s : State) : Result := readMem 0x7D (accAbx w s) opAdc s

/-- 0x81 `STA (zp,X)` (rules R128, R93). -/
def execStaIzx (b : Byte) (s : State) : Result := storeOp 0x81 (accIzx b s) s.a s

/-- 0x85 `STA zp` (rules R128, R87). -/
def execStaZp (b : Byte) (s : State) : Result := storeOp 0x85 (accZp b) s.a s

/-- 0x8D `STA abs` (rules R128, R90). -/
def execStaAbs (w : Word) (s : State) : Result := storeOp 0x8D (accAbs w) s.a s

/-- 0x91 `STA (zp),Y` (rules R128, R94). -/
def execStaIzy (b : Byte) (s : State) : Result := storeOp 0x91 (accIzy b s) s.a s

/-- 0x95 `STA zp,X` (rules R128, R88). -/
def execStaZpx (b : Byte) (s : State) : Result := storeOp 0x95 (accZpx b s) s.a s

/-- 0x99 `STA abs,Y` (rules R128, R92). -/
def execStaAby (w : Word) (s : State) : Result := storeOp 0x99 (accAby w s) s.a s

/-- 0x9D `STA abs,X` (rules R128, R91). -/
def execStaAbx (w : Word) (s : State) : Result := storeOp 0x9D (accAbx w s) s.a s

/-- LDA (rule R129). -/
def opLda (v : Byte) (s : State) : State := (s.setA v).setNZ v

/-- 0xA1 `LDA (zp,X)` (rules R129, R93). -/
def execLdaIzx (b : Byte) (s : State) : Result := readMem 0xA1 (accIzx b s) opLda s

/-- 0xA5 `LDA zp` (rules R129, R87). -/
def execLdaZp (b : Byte) (s : State) : Result := readMem 0xA5 (accZp b) opLda s

/-- 0xA9 `LDA #` (rules R129, R86). -/
def execLdaImm (b : Byte) (s : State) : Result := readImm 0xA9 b opLda s

/-- 0xAD `LDA abs` (rules R129, R90). -/
def execLdaAbs (w : Word) (s : State) : Result := readMem 0xAD (accAbs w) opLda s

/-- 0xB1 `LDA (zp),Y` (rules R129, R94). -/
def execLdaIzy (b : Byte) (s : State) : Result := readMem 0xB1 (accIzy b s) opLda s

/-- 0xB5 `LDA zp,X` (rules R129, R88). -/
def execLdaZpx (b : Byte) (s : State) : Result := readMem 0xB5 (accZpx b s) opLda s

/-- 0xB9 `LDA abs,Y` (rules R129, R92). -/
def execLdaAby (w : Word) (s : State) : Result := readMem 0xB9 (accAby w s) opLda s

/-- 0xBD `LDA abs,X` (rules R129, R91). -/
def execLdaAbx (w : Word) (s : State) : Result := readMem 0xBD (accAbx w s) opLda s

/-- CMP (rule R130). -/
def opCmp (v : Byte) (s : State) : State := s.compare s.a v

/-- 0xC1 `CMP (zp,X)` (rules R130, R93). -/
def execCmpIzx (b : Byte) (s : State) : Result := readMem 0xC1 (accIzx b s) opCmp s

/-- 0xC5 `CMP zp` (rules R130, R87). -/
def execCmpZp (b : Byte) (s : State) : Result := readMem 0xC5 (accZp b) opCmp s

/-- 0xC9 `CMP #` (rules R130, R86). -/
def execCmpImm (b : Byte) (s : State) : Result := readImm 0xC9 b opCmp s

/-- 0xCD `CMP abs` (rules R130, R90). -/
def execCmpAbs (w : Word) (s : State) : Result := readMem 0xCD (accAbs w) opCmp s

/-- 0xD1 `CMP (zp),Y` (rules R130, R94). -/
def execCmpIzy (b : Byte) (s : State) : Result := readMem 0xD1 (accIzy b s) opCmp s

/-- 0xD5 `CMP zp,X` (rules R130, R88). -/
def execCmpZpx (b : Byte) (s : State) : Result := readMem 0xD5 (accZpx b s) opCmp s

/-- 0xD9 `CMP abs,Y` (rules R130, R92). -/
def execCmpAby (w : Word) (s : State) : Result := readMem 0xD9 (accAby w s) opCmp s

/-- 0xDD `CMP abs,X` (rules R130, R91). -/
def execCmpAbx (w : Word) (s : State) : Result := readMem 0xDD (accAbx w s) opCmp s

/-- SBC (rule R131). -/
def opSbc (v : Byte) (s : State) : State := s.setSum (subCore s.a v (s.flag .c))

/-- 0xE1 `SBC (zp,X)` (rules R131, R93). -/
def execSbcIzx (b : Byte) (s : State) : Result := readMem 0xE1 (accIzx b s) opSbc s

/-- 0xE5 `SBC zp` (rules R131, R87). -/
def execSbcZp (b : Byte) (s : State) : Result := readMem 0xE5 (accZp b) opSbc s

/-- 0xE9 `SBC #` (rules R131, R86). -/
def execSbcImm (b : Byte) (s : State) : Result := readImm 0xE9 b opSbc s

/-- 0xED `SBC abs` (rules R131, R90). -/
def execSbcAbs (w : Word) (s : State) : Result := readMem 0xED (accAbs w) opSbc s

/-- 0xF1 `SBC (zp),Y` (rules R131, R94). -/
def execSbcIzy (b : Byte) (s : State) : Result := readMem 0xF1 (accIzy b s) opSbc s

/-- 0xF5 `SBC zp,X` (rules R131, R88). -/
def execSbcZpx (b : Byte) (s : State) : Result := readMem 0xF5 (accZpx b s) opSbc s

/-- 0xF9 `SBC abs,Y` (rules R131, R92). -/
def execSbcAby (w : Word) (s : State) : Result := readMem 0xF9 (accAby w s) opSbc s

/-- 0xFD `SBC abs,X` (rules R131, R91). -/
def execSbcAbx (w : Word) (s : State) : Result := readMem 0xFD (accAbx w s) opSbc s

end Sys2Proof.Machine
end

