-- ==== Sys2Proof/Machine/Control.lean ====
section
/-! DEFINITION. The control, branch and compare instructions (43_control.md rules R201 to R219): the eight branches,
BRK JSR RTI RTS JMP BIT STY LDY CPY CPX. -/

namespace Sys2Proof.Machine

/-- 0x10 `BPL rel` (rules R201, R96). -/
def execBpl (b : Byte) (s : State) : Result := branchOp 0x10 b (!s.flag .n) s

/-- 0x30 `BMI rel` (rules R202, R96). -/
def execBmi (b : Byte) (s : State) : Result := branchOp 0x30 b (s.flag .n) s

/-- 0x50 `BVC rel` (rules R203, R96). -/
def execBvc (b : Byte) (s : State) : Result := branchOp 0x50 b (!s.flag .v) s

/-- 0x70 `BVS rel` (rules R204, R96). -/
def execBvs (b : Byte) (s : State) : Result := branchOp 0x70 b (s.flag .v) s

/-- 0x90 `BCC rel` (rules R205, R96). -/
def execBcc (b : Byte) (s : State) : Result := branchOp 0x90 b (!s.flag .c) s

/-- 0xB0 `BCS rel` (rules R206, R96). -/
def execBcs (b : Byte) (s : State) : Result := branchOp 0xB0 b (s.flag .c) s

/-- 0xD0 `BNE rel` (rules R207, R96). -/
def execBne (b : Byte) (s : State) : Result := branchOp 0xD0 b (!s.flag .z) s

/-- 0xF0 `BEQ rel` (rules R208, R96). -/
def execBeq (b : Byte) (s : State) : Result := branchOp 0xF0 b (s.flag .z) s

/-- 0x00 `BRK` (rules R209, R84). -/
def execBrk (s : State) : Result := transferOp 0x00 softwareBreak s

/-- 0x20 `JSR abs` (rules R210, R90). -/
def execJsr (w : Word) (s : State) : Result := callOp 0x20 w s

/-- 0x40 `RTI` (rules R211, R84). -/
def execRti (s : State) : Result := returnOp 0x40 s.params.sentinelRti returnFromBreak s

/-- 0x60 `RTS` (rules R212, R84). -/
def execRts (s : State) : Result := returnOp 0x60 s.params.sentinelRts returnFromCall s

/-- 0x4C `JMP abs` (rules R213, R90). -/
def execJmpAbs (w : Word) (s : State) : Result := jumpOp 0x4C 3 w s

/-- 0x6C `JMP (abs)` (rules R214, R95). -/
def execJmpInd (w : Word) (s : State) : Result := jumpOp 0x6C 3 (indirectTarget s w) s

/-- BIT (rule R215): Z from the AND, N and V from the operand. -/
def opBit (v : Byte) (s : State) : State :=
  ((s.setFlag .z (decide (s.a &&& v = 0))).setFlag .n (bit7 v)).setFlag .v (v.getLsbD 6)

/-- 0x24 `BIT zp` (rules R215, R87). -/
def execBitZp (b : Byte) (s : State) : Result := readMem 0x24 (accZp b) opBit s

/-- 0x2C `BIT abs` (rules R215, R90). -/
def execBitAbs (w : Word) (s : State) : Result := readMem 0x2C (accAbs w) opBit s

/-- 0x84 `STY zp` (rules R216, R87). -/
def execStyZp (b : Byte) (s : State) : Result := storeOp 0x84 (accZp b) s.y s

/-- 0x8C `STY abs` (rules R216, R90). -/
def execStyAbs (w : Word) (s : State) : Result := storeOp 0x8C (accAbs w) s.y s

/-- 0x94 `STY zp,X` (rules R216, R88). -/
def execStyZpx (b : Byte) (s : State) : Result := storeOp 0x94 (accZpx b s) s.y s

/-- LDY (rule R217). -/
def opLdy (v : Byte) (s : State) : State := (s.setY v).setNZ v

/-- 0xA0 `LDY #` (rules R217, R86). -/
def execLdyImm (b : Byte) (s : State) : Result := readImm 0xA0 b opLdy s

/-- 0xA4 `LDY zp` (rules R217, R87). -/
def execLdyZp (b : Byte) (s : State) : Result := readMem 0xA4 (accZp b) opLdy s

/-- 0xAC `LDY abs` (rules R217, R90). -/
def execLdyAbs (w : Word) (s : State) : Result := readMem 0xAC (accAbs w) opLdy s

/-- 0xB4 `LDY zp,X` (rules R217, R88). -/
def execLdyZpx (b : Byte) (s : State) : Result := readMem 0xB4 (accZpx b s) opLdy s

/-- 0xBC `LDY abs,X` (rules R217, R91). -/
def execLdyAbx (w : Word) (s : State) : Result := readMem 0xBC (accAbx w s) opLdy s

/-- CPY (rule R218). -/
def opCpy (v : Byte) (s : State) : State := s.compare s.y v

/-- 0xC0 `CPY #` (rules R218, R86). -/
def execCpyImm (b : Byte) (s : State) : Result := readImm 0xC0 b opCpy s

/-- 0xC4 `CPY zp` (rules R218, R87). -/
def execCpyZp (b : Byte) (s : State) : Result := readMem 0xC4 (accZp b) opCpy s

/-- 0xCC `CPY abs` (rules R218, R90). -/
def execCpyAbs (w : Word) (s : State) : Result := readMem 0xCC (accAbs w) opCpy s

/-- CPX (rule R219). -/
def opCpx (v : Byte) (s : State) : State := s.compare s.x v

/-- 0xE0 `CPX #` (rules R219, R86). -/
def execCpxImm (b : Byte) (s : State) : Result := readImm 0xE0 b opCpx s

/-- 0xE4 `CPX zp` (rules R219, R87). -/
def execCpxZp (b : Byte) (s : State) : Result := readMem 0xE4 (accZp b) opCpx s

/-- 0xEC `CPX abs` (rules R219, R90). -/
def execCpxAbs (w : Word) (s : State) : Result := readMem 0xEC (accAbs w) opCpx s

end Sys2Proof.Machine
end

