-- ==== Sys2Proof/Machine/ShiftRegister.lean ====
section
/-! DEFINITION. The shift/register instructions (41_shift_register.md rules R141 to R154): ASL ROL LSR ROR STX LDX DEC
INC TXA TAX TXS TSX DEX NOP. -/

namespace Sys2Proof.Machine

/-- 0x06 `ASL zp` (rules R141, R87). -/
def execAslZp (b : Byte) (s : State) : Result := shiftMemOp 0x06 (accZp b) shiftAsl s

/-- 0x0A `ASL A` (rules R141, R85). -/
def execAslAcc (s : State) : Result := shiftAccOp 0x0A shiftAsl s

/-- 0x0E `ASL abs` (rules R141, R90). -/
def execAslAbs (w : Word) (s : State) : Result := shiftMemOp 0x0E (accAbs w) shiftAsl s

/-- 0x16 `ASL zp,X` (rules R141, R88). -/
def execAslZpx (b : Byte) (s : State) : Result := shiftMemOp 0x16 (accZpx b s) shiftAsl s

/-- 0x1E `ASL abs,X` (rules R141, R91). -/
def execAslAbx (w : Word) (s : State) : Result := shiftMemOp 0x1E (accAbx w s) shiftAsl s

/-- 0x26 `ROL zp` (rules R142, R87). -/
def execRolZp (b : Byte) (s : State) : Result := shiftMemOp 0x26 (accZp b) shiftRol s

/-- 0x2A `ROL A` (rules R142, R85). -/
def execRolAcc (s : State) : Result := shiftAccOp 0x2A shiftRol s

/-- 0x2E `ROL abs` (rules R142, R90). -/
def execRolAbs (w : Word) (s : State) : Result := shiftMemOp 0x2E (accAbs w) shiftRol s

/-- 0x36 `ROL zp,X` (rules R142, R88). -/
def execRolZpx (b : Byte) (s : State) : Result := shiftMemOp 0x36 (accZpx b s) shiftRol s

/-- 0x3E `ROL abs,X` (rules R142, R91). -/
def execRolAbx (w : Word) (s : State) : Result := shiftMemOp 0x3E (accAbx w s) shiftRol s

/-- 0x46 `LSR zp` (rules R143, R87). -/
def execLsrZp (b : Byte) (s : State) : Result := shiftMemOp 0x46 (accZp b) shiftLsr s

/-- 0x4A `LSR A` (rules R143, R85). -/
def execLsrAcc (s : State) : Result := shiftAccOp 0x4A shiftLsr s

/-- 0x4E `LSR abs` (rules R143, R90). -/
def execLsrAbs (w : Word) (s : State) : Result := shiftMemOp 0x4E (accAbs w) shiftLsr s

/-- 0x56 `LSR zp,X` (rules R143, R88). -/
def execLsrZpx (b : Byte) (s : State) : Result := shiftMemOp 0x56 (accZpx b s) shiftLsr s

/-- 0x5E `LSR abs,X` (rules R143, R91). -/
def execLsrAbx (w : Word) (s : State) : Result := shiftMemOp 0x5E (accAbx w s) shiftLsr s

/-- 0x66 `ROR zp` (rules R144, R87). -/
def execRorZp (b : Byte) (s : State) : Result := shiftMemOp 0x66 (accZp b) shiftRor s

/-- 0x6A `ROR A` (rules R144, R85). -/
def execRorAcc (s : State) : Result := shiftAccOp 0x6A shiftRor s

/-- 0x6E `ROR abs` (rules R144, R90). -/
def execRorAbs (w : Word) (s : State) : Result := shiftMemOp 0x6E (accAbs w) shiftRor s

/-- 0x76 `ROR zp,X` (rules R144, R88). -/
def execRorZpx (b : Byte) (s : State) : Result := shiftMemOp 0x76 (accZpx b s) shiftRor s

/-- 0x7E `ROR abs,X` (rules R144, R91). -/
def execRorAbx (w : Word) (s : State) : Result := shiftMemOp 0x7E (accAbx w s) shiftRor s

/-- 0x86 `STX zp` (rules R145, R87). -/
def execStxZp (b : Byte) (s : State) : Result := storeOp 0x86 (accZp b) s.x s

/-- 0x8E `STX abs` (rules R145, R90). -/
def execStxAbs (w : Word) (s : State) : Result := storeOp 0x8E (accAbs w) s.x s

/-- 0x96 `STX zp,Y` (rules R145, R89). -/
def execStxZpy (b : Byte) (s : State) : Result := storeOp 0x96 (accZpy b s) s.x s

/-- LDX (rule R146). -/
def opLdx (v : Byte) (s : State) : State := (s.setX v).setNZ v

/-- 0xA2 `LDX #` (rules R146, R86). -/
def execLdxImm (b : Byte) (s : State) : Result := readImm 0xA2 b opLdx s

/-- 0xA6 `LDX zp` (rules R146, R87). -/
def execLdxZp (b : Byte) (s : State) : Result := readMem 0xA6 (accZp b) opLdx s

/-- 0xAE `LDX abs` (rules R146, R90). -/
def execLdxAbs (w : Word) (s : State) : Result := readMem 0xAE (accAbs w) opLdx s

/-- 0xB6 `LDX zp,Y` (rules R146, R89). -/
def execLdxZpy (b : Byte) (s : State) : Result := readMem 0xB6 (accZpy b s) opLdx s

/-- 0xBE `LDX abs,Y` (rules R146, R92). -/
def execLdxAby (w : Word) (s : State) : Result := readMem 0xBE (accAby w s) opLdx s

/-- 0xC6 `DEC zp` (rules R147, R87). -/
def execDecZp (b : Byte) (s : State) : Result := countMemOp 0xC6 (accZp b) (· - 1) s

/-- 0xCE `DEC abs` (rules R147, R90). -/
def execDecAbs (w : Word) (s : State) : Result := countMemOp 0xCE (accAbs w) (· - 1) s

/-- 0xD6 `DEC zp,X` (rules R147, R88). -/
def execDecZpx (b : Byte) (s : State) : Result := countMemOp 0xD6 (accZpx b s) (· - 1) s

/-- 0xDE `DEC abs,X` (rules R147, R91). -/
def execDecAbx (w : Word) (s : State) : Result := countMemOp 0xDE (accAbx w s) (· - 1) s

/-- 0xE6 `INC zp` (rules R148, R87). -/
def execIncZp (b : Byte) (s : State) : Result := countMemOp 0xE6 (accZp b) (· + 1) s

/-- 0xEE `INC abs` (rules R148, R90). -/
def execIncAbs (w : Word) (s : State) : Result := countMemOp 0xEE (accAbs w) (· + 1) s

/-- 0xF6 `INC zp,X` (rules R148, R88). -/
def execIncZpx (b : Byte) (s : State) : Result := countMemOp 0xF6 (accZpx b s) (· + 1) s

/-- 0xFE `INC abs,X` (rules R148, R91). -/
def execIncAbx (w : Word) (s : State) : Result := countMemOp 0xFE (accAbx w s) (· + 1) s

/-- TXA (rule R149). -/
def opTxa (s : State) : State := (s.setA s.x).setNZ s.x

/-- 0x8A `TXA` (rules R149, R84). -/
def execTxa (s : State) : Result := impliedOp 0x8A opTxa s

/-- TAX (rule R150). -/
def opTax (s : State) : State := (s.setX s.a).setNZ s.a

/-- 0xAA `TAX` (rules R150, R84). -/
def execTax (s : State) : Result := impliedOp 0xAA opTax s

/-- TXS (rule R151): no flag is written. -/
def opTxs (s : State) : State := s.setSp s.x

/-- 0x9A `TXS` (rules R151, R84). -/
def execTxs (s : State) : Result := impliedOp 0x9A opTxs s

/-- TSX (rule R152). -/
def opTsx (s : State) : State := (s.setX s.sp).setNZ s.sp

/-- 0xBA `TSX` (rules R152, R84). -/
def execTsx (s : State) : Result := impliedOp 0xBA opTsx s

/-- DEX (rule R153). -/
def opDex (s : State) : State := (s.setX (s.x - 1)).setNZ (s.x - 1)

/-- 0xCA `DEX` (rules R153, R84). -/
def execDex (s : State) : Result := impliedOp 0xCA opDex s

/-- 0xEA `NOP` (rules R154, R84). -/
def execNop (s : State) : Result := impliedOp 0xEA id s

end Sys2Proof.Machine
end

