-- ==== Sys2Proof/Machine/StackFlag.lean ====
section
/-! DEFINITION. The stack/flag instructions (42_stack_flag.md rules R172 to R187): PHP PLP PHA PLA DEY TAY INY INX TYA
CLC SEC CLI SEI CLV CLD SED. -/

namespace Sys2Proof.Machine

/-- PHP (rule R172): P itself keeps its bits. -/
def opPhp (s : State) : State := s.push (s.p ||| s.params.pushOrMask)

/-- 0x08 `PHP` (rules R172, R84). -/
def execPhp (s : State) : Result := impliedOp 0x08 opPhp s

/-- PLP (rule R173): all eight bits of P (rule R28). -/
def opPlp (s : State) : State := s.dropTop.setP s.pulled

/-- 0x28 `PLP` (rules R173, R84). -/
def execPlp (s : State) : Result := impliedOp 0x28 opPlp s

/-- PHA (rule R174). -/
def opPha (s : State) : State := s.push s.a

/-- 0x48 `PHA` (rules R174, R84). -/
def execPha (s : State) : Result := impliedOp 0x48 opPha s

/-- PLA (rule R175). -/
def opPla (s : State) : State := (s.dropTop.setA s.pulled).setNZ s.pulled

/-- 0x68 `PLA` (rules R175, R84). -/
def execPla (s : State) : Result := impliedOp 0x68 opPla s

/-- DEY (rule R176). -/
def opDey (s : State) : State := (s.setY (s.y - 1)).setNZ (s.y - 1)

/-- 0x88 `DEY` (rules R176, R84). -/
def execDey (s : State) : Result := impliedOp 0x88 opDey s

/-- TAY (rule R177). -/
def opTay (s : State) : State := (s.setY s.a).setNZ s.a

/-- 0xA8 `TAY` (rules R177, R84). -/
def execTay (s : State) : Result := impliedOp 0xA8 opTay s

/-- INY (rule R178). -/
def opIny (s : State) : State := (s.setY (s.y + 1)).setNZ (s.y + 1)

/-- 0xC8 `INY` (rules R178, R84). -/
def execIny (s : State) : Result := impliedOp 0xC8 opIny s

/-- INX (rule R179). -/
def opInx (s : State) : State := (s.setX (s.x + 1)).setNZ (s.x + 1)

/-- 0xE8 `INX` (rules R179, R84). -/
def execInx (s : State) : Result := impliedOp 0xE8 opInx s

/-- TYA (rule R180). -/
def opTya (s : State) : State := (s.setA s.y).setNZ s.y

/-- 0x98 `TYA` (rules R180, R84). -/
def execTya (s : State) : Result := impliedOp 0x98 opTya s

/-- CLC (rule R181). -/
def opClc (s : State) : State := s.setFlag .c false

/-- 0x18 `CLC` (rules R181, R84). -/
def execClc (s : State) : Result := impliedOp 0x18 opClc s

/-- SEC (rule R182). -/
def opSec (s : State) : State := s.setFlag .c true

/-- 0x38 `SEC` (rules R182, R84). -/
def execSec (s : State) : Result := impliedOp 0x38 opSec s

/-- CLI (rule R183). -/
def opCli (s : State) : State := s.setFlag .i false

/-- 0x58 `CLI` (rules R183, R84). -/
def execCli (s : State) : Result := impliedOp 0x58 opCli s

/-- SEI (rule R184). -/
def opSei (s : State) : State := s.setFlag .i true

/-- 0x78 `SEI` (rules R184, R84). -/
def execSei (s : State) : Result := impliedOp 0x78 opSei s

/-- CLV (rule R185). -/
def opClv (s : State) : State := s.setFlag .v false

/-- 0xB8 `CLV` (rules R185, R84). -/
def execClv (s : State) : Result := impliedOp 0xB8 opClv s

/-- CLD (rule R186). -/
def opCld (s : State) : State := s.setFlag .d false

/-- 0xD8 `CLD` (rules R186, R84). -/
def execCld (s : State) : Result := impliedOp 0xD8 opCld s

/-- SED (rule R187). -/
def opSed (s : State) : State := s.setFlag .d true

/-- 0xF8 `SED` (rules R187, R84). -/
def execSed (s : State) : Result := impliedOp 0xF8 opSed s

end Sys2Proof.Machine
end

