-- ==== Sys2Proof/Machine/Undocumented.lean ====
section
/-! DEFINITION. The undocumented instructions (44_undocumented.md rules R240 to R263): SLO RLA SRE RRA SAX LAX DCP ISC
ANC ALR ARR SBX SBC(0xEB) LAS, the NOP variants, and the 19 encodings for which the spec gives no successor state. -/

namespace Sys2Proof.Machine

/-- 0x03 `SLO (zp,X)` (rules R240, R93). -/
def execSloIzx (b : Byte) (s : State) : Result := shiftThenOp 0x03 (accIzx b s) shiftAsl opOra s

/-- 0x07 `SLO zp` (rules R240, R87). -/
def execSloZp (b : Byte) (s : State) : Result := shiftThenOp 0x07 (accZp b) shiftAsl opOra s

/-- 0x0F `SLO abs` (rules R240, R90). -/
def execSloAbs (w : Word) (s : State) : Result := shiftThenOp 0x0F (accAbs w) shiftAsl opOra s

/-- 0x13 `SLO (zp),Y` (rules R240, R94). -/
def execSloIzy (b : Byte) (s : State) : Result := shiftThenOp 0x13 (accIzy b s) shiftAsl opOra s

/-- 0x17 `SLO zp,X` (rules R240, R88). -/
def execSloZpx (b : Byte) (s : State) : Result := shiftThenOp 0x17 (accZpx b s) shiftAsl opOra s

/-- 0x1B `SLO abs,Y` (rules R240, R92). -/
def execSloAby (w : Word) (s : State) : Result := shiftThenOp 0x1B (accAby w s) shiftAsl opOra s

/-- 0x1F `SLO abs,X` (rules R240, R91). -/
def execSloAbx (w : Word) (s : State) : Result := shiftThenOp 0x1F (accAbx w s) shiftAsl opOra s

/-- 0x23 `RLA (zp,X)` (rules R241, R93). -/
def execRlaIzx (b : Byte) (s : State) : Result := shiftThenOp 0x23 (accIzx b s) shiftRol opAnd s

/-- 0x27 `RLA zp` (rules R241, R87). -/
def execRlaZp (b : Byte) (s : State) : Result := shiftThenOp 0x27 (accZp b) shiftRol opAnd s

/-- 0x2F `RLA abs` (rules R241, R90). -/
def execRlaAbs (w : Word) (s : State) : Result := shiftThenOp 0x2F (accAbs w) shiftRol opAnd s

/-- 0x33 `RLA (zp),Y` (rules R241, R94). -/
def execRlaIzy (b : Byte) (s : State) : Result := shiftThenOp 0x33 (accIzy b s) shiftRol opAnd s

/-- 0x37 `RLA zp,X` (rules R241, R88). -/
def execRlaZpx (b : Byte) (s : State) : Result := shiftThenOp 0x37 (accZpx b s) shiftRol opAnd s

/-- 0x3B `RLA abs,Y` (rules R241, R92). -/
def execRlaAby (w : Word) (s : State) : Result := shiftThenOp 0x3B (accAby w s) shiftRol opAnd s

/-- 0x3F `RLA abs,X` (rules R241, R91). -/
def execRlaAbx (w : Word) (s : State) : Result := shiftThenOp 0x3F (accAbx w s) shiftRol opAnd s

/-- 0x43 `SRE (zp,X)` (rules R242, R93). -/
def execSreIzx (b : Byte) (s : State) : Result := shiftThenOp 0x43 (accIzx b s) shiftLsr opEor s

/-- 0x47 `SRE zp` (rules R242, R87). -/
def execSreZp (b : Byte) (s : State) : Result := shiftThenOp 0x47 (accZp b) shiftLsr opEor s

/-- 0x4F `SRE abs` (rules R242, R90). -/
def execSreAbs (w : Word) (s : State) : Result := shiftThenOp 0x4F (accAbs w) shiftLsr opEor s

/-- 0x53 `SRE (zp),Y` (rules R242, R94). -/
def execSreIzy (b : Byte) (s : State) : Result := shiftThenOp 0x53 (accIzy b s) shiftLsr opEor s

/-- 0x57 `SRE zp,X` (rules R242, R88). -/
def execSreZpx (b : Byte) (s : State) : Result := shiftThenOp 0x57 (accZpx b s) shiftLsr opEor s

/-- 0x5B `SRE abs,Y` (rules R242, R92). -/
def execSreAby (w : Word) (s : State) : Result := shiftThenOp 0x5B (accAby w s) shiftLsr opEor s

/-- 0x5F `SRE abs,X` (rules R242, R91). -/
def execSreAbx (w : Word) (s : State) : Result := shiftThenOp 0x5F (accAbx w s) shiftLsr opEor s

/-- 0x63 `RRA (zp,X)` (rules R243, R93). -/
def execRraIzx (b : Byte) (s : State) : Result := shiftThenOp 0x63 (accIzx b s) shiftRor opAdc s

/-- 0x67 `RRA zp` (rules R243, R87). -/
def execRraZp (b : Byte) (s : State) : Result := shiftThenOp 0x67 (accZp b) shiftRor opAdc s

/-- 0x6F `RRA abs` (rules R243, R90). -/
def execRraAbs (w : Word) (s : State) : Result := shiftThenOp 0x6F (accAbs w) shiftRor opAdc s

/-- 0x73 `RRA (zp),Y` (rules R243, R94). -/
def execRraIzy (b : Byte) (s : State) : Result := shiftThenOp 0x73 (accIzy b s) shiftRor opAdc s

/-- 0x77 `RRA zp,X` (rules R243, R88). -/
def execRraZpx (b : Byte) (s : State) : Result := shiftThenOp 0x77 (accZpx b s) shiftRor opAdc s

/-- 0x7B `RRA abs,Y` (rules R243, R92). -/
def execRraAby (w : Word) (s : State) : Result := shiftThenOp 0x7B (accAby w s) shiftRor opAdc s

/-- 0x7F `RRA abs,X` (rules R243, R91). -/
def execRraAbx (w : Word) (s : State) : Result := shiftThenOp 0x7F (accAbx w s) shiftRor opAdc s

/-- 0x83 `SAX (zp,X)` (rules R244, R93). -/
def execSaxIzx (b : Byte) (s : State) : Result := storeOp 0x83 (accIzx b s) (s.a &&& s.x) s

/-- 0x87 `SAX zp` (rules R244, R87). -/
def execSaxZp (b : Byte) (s : State) : Result := storeOp 0x87 (accZp b) (s.a &&& s.x) s

/-- 0x8F `SAX abs` (rules R244, R90). -/
def execSaxAbs (w : Word) (s : State) : Result := storeOp 0x8F (accAbs w) (s.a &&& s.x) s

/-- 0x97 `SAX zp,Y` (rules R244, R89). -/
def execSaxZpy (b : Byte) (s : State) : Result := storeOp 0x97 (accZpy b s) (s.a &&& s.x) s

/-- LAX (rule R245). -/
def opLax (v : Byte) (s : State) : State := ((s.setA v).setX v).setNZ v

/-- 0xA3 `LAX (zp,X)` (rules R245, R93). -/
def execLaxIzx (b : Byte) (s : State) : Result := readMem 0xA3 (accIzx b s) opLax s

/-- 0xA7 `LAX zp` (rules R245, R87). -/
def execLaxZp (b : Byte) (s : State) : Result := readMem 0xA7 (accZp b) opLax s

/-- 0xAF `LAX abs` (rules R245, R90). -/
def execLaxAbs (w : Word) (s : State) : Result := readMem 0xAF (accAbs w) opLax s

/-- 0xB3 `LAX (zp),Y` (rules R245, R94). -/
def execLaxIzy (b : Byte) (s : State) : Result := readMem 0xB3 (accIzy b s) opLax s

/-- 0xB7 `LAX zp,Y` (rules R245, R89). -/
def execLaxZpy (b : Byte) (s : State) : Result := readMem 0xB7 (accZpy b s) opLax s

/-- 0xBF `LAX abs,Y` (rules R245, R92). -/
def execLaxAby (w : Word) (s : State) : Result := readMem 0xBF (accAby w s) opLax s

/-- 0xC3 `DCP (zp,X)` (rules R246, R93). -/
def execDcpIzx (b : Byte) (s : State) : Result := modifyOp 0xC3 (accIzx b s) (· - 1) (fun m t => opCmp (m - 1) t) s

/-- 0xC7 `DCP zp` (rules R246, R87). -/
def execDcpZp (b : Byte) (s : State) : Result := modifyOp 0xC7 (accZp b) (· - 1) (fun m t => opCmp (m - 1) t) s

/-- 0xCF `DCP abs` (rules R246, R90). -/
def execDcpAbs (w : Word) (s : State) : Result := modifyOp 0xCF (accAbs w) (· - 1) (fun m t => opCmp (m - 1) t) s

/-- 0xD3 `DCP (zp),Y` (rules R246, R94). -/
def execDcpIzy (b : Byte) (s : State) : Result := modifyOp 0xD3 (accIzy b s) (· - 1) (fun m t => opCmp (m - 1) t) s

/-- 0xD7 `DCP zp,X` (rules R246, R88). -/
def execDcpZpx (b : Byte) (s : State) : Result := modifyOp 0xD7 (accZpx b s) (· - 1) (fun m t => opCmp (m - 1) t) s

/-- 0xDB `DCP abs,Y` (rules R246, R92). -/
def execDcpAby (w : Word) (s : State) : Result := modifyOp 0xDB (accAby w s) (· - 1) (fun m t => opCmp (m - 1) t) s

/-- 0xDF `DCP abs,X` (rules R246, R91). -/
def execDcpAbx (w : Word) (s : State) : Result := modifyOp 0xDF (accAbx w s) (· - 1) (fun m t => opCmp (m - 1) t) s

/-- 0xE3 `ISC (zp,X)` (rules R247, R93). -/
def execIscIzx (b : Byte) (s : State) : Result := modifyOp 0xE3 (accIzx b s) (· + 1) (fun m t => opSbc (m + 1) t) s

/-- 0xE7 `ISC zp` (rules R247, R87). -/
def execIscZp (b : Byte) (s : State) : Result := modifyOp 0xE7 (accZp b) (· + 1) (fun m t => opSbc (m + 1) t) s

/-- 0xEF `ISC abs` (rules R247, R90). -/
def execIscAbs (w : Word) (s : State) : Result := modifyOp 0xEF (accAbs w) (· + 1) (fun m t => opSbc (m + 1) t) s

/-- 0xF3 `ISC (zp),Y` (rules R247, R94). -/
def execIscIzy (b : Byte) (s : State) : Result := modifyOp 0xF3 (accIzy b s) (· + 1) (fun m t => opSbc (m + 1) t) s

/-- 0xF7 `ISC zp,X` (rules R247, R88). -/
def execIscZpx (b : Byte) (s : State) : Result := modifyOp 0xF7 (accZpx b s) (· + 1) (fun m t => opSbc (m + 1) t) s

/-- 0xFB `ISC abs,Y` (rules R247, R92). -/
def execIscAby (w : Word) (s : State) : Result := modifyOp 0xFB (accAby w s) (· + 1) (fun m t => opSbc (m + 1) t) s

/-- 0xFF `ISC abs,X` (rules R247, R91). -/
def execIscAbx (w : Word) (s : State) : Result := modifyOp 0xFF (accAbx w s) (· + 1) (fun m t => opSbc (m + 1) t) s

/-- ANC (rule R248): AND, then bit 7 of the result into C. -/
def opAnc (v : Byte) (s : State) : State := (opAnd v s).setFlag .c (bit7 (s.a &&& v))

/-- 0x0B `ANC #` (rules R248, R86). -/
def execAncImm0B (b : Byte) (s : State) : Result := readImm 0x0B b opAnc s

/-- 0x2B `ANC #` (rules R248, R86). -/
def execAncImm2B (b : Byte) (s : State) : Result := readImm 0x2B b opAnc s

/-- ALR (rule R249): AND, then LSR A. -/
def opAlr (v : Byte) (s : State) : State :=
  let sh := shiftLsr (s.a &&& v) (s.flag .c)
  ((s.setA sh.r).setFlag .c sh.c).setNZ sh.r

/-- 0x4B `ALR #` (rules R249, R86). -/
def execAlrImm (b : Byte) (s : State) : Result := readImm 0x4B b opAlr s

/-- ARR (rule R250): AND, then ROR A, with its own C and V. -/
def opArr (v : Byte) (s : State) : State :=
  let r := (shiftRor (s.a &&& v) (s.flag .c)).r
  (((s.setA r).setNZ r).setFlag .c (r.getLsbD 6)).setFlag .v (r.getLsbD 6 != r.getLsbD 5)

/-- 0x6B `ARR #` (rules R250, R86). -/
def execArrImm (b : Byte) (s : State) : Result := readImm 0x6B b opArr s

/-- SBX (rule R251): A AND X minus the operand into X, as a compare. -/
def opSbx (v : Byte) (s : State) : State :=
  let t := s.a &&& s.x
  ((s.setX (t - v)).setFlag .c (decide (v ≤ t))).setNZ (t - v)

/-- 0xCB `SBX #` (rules R251, R86). -/
def execSbxImm (b : Byte) (s : State) : Result := readImm 0xCB b opSbx s

/-- 0xEB `SBC #` (rules R252, R86). -/
def execSbcImmEB (b : Byte) (s : State) : Result := readImm 0xEB b opSbc s

/-- LAS (rule R253). -/
def opLas (v : Byte) (s : State) : State :=
  let r := v &&& s.sp
  (((s.setA r).setX r).setSp r).setNZ r

/-- 0xBB `LAS abs,Y` (rules R253, R92). -/
def execLasAby (w : Word) (s : State) : Result := readMem 0xBB (accAby w s) opLas s

/-- The undocumented NOPs change no register; their operand is read and discarded (rules R255, R256). -/
def opNop (_v : Byte) (s : State) : State := s

/-- 0x1A `NOP` (rules R254, R84). -/
def execNop1A (s : State) : Result := impliedOp 0x1A id s

/-- 0x3A `NOP` (rules R254, R84). -/
def execNop3A (s : State) : Result := impliedOp 0x3A id s

/-- 0x5A `NOP` (rules R254, R84). -/
def execNop5A (s : State) : Result := impliedOp 0x5A id s

/-- 0x7A `NOP` (rules R254, R84). -/
def execNop7A (s : State) : Result := impliedOp 0x7A id s

/-- 0xDA `NOP` (rules R254, R84). -/
def execNopDA (s : State) : Result := impliedOp 0xDA id s

/-- 0xFA `NOP` (rules R254, R84). -/
def execNopFA (s : State) : Result := impliedOp 0xFA id s

/-- 0x80 `NOP #` (rules R255, R86). -/
def execNopImm80 (b : Byte) (s : State) : Result := readImm 0x80 b opNop s

/-- 0x82 `NOP #` (rules R255, R86). -/
def execNopImm82 (b : Byte) (s : State) : Result := readImm 0x82 b opNop s

/-- 0x89 `NOP #` (rules R255, R86). -/
def execNopImm89 (b : Byte) (s : State) : Result := readImm 0x89 b opNop s

/-- 0xC2 `NOP #` (rules R255, R86). -/
def execNopImmC2 (b : Byte) (s : State) : Result := readImm 0xC2 b opNop s

/-- 0xE2 `NOP #` (rules R255, R86). -/
def execNopImmE2 (b : Byte) (s : State) : Result := readImm 0xE2 b opNop s

/-- 0x04 `NOP zp` (rules R256, R87). -/
def execNopZp04 (b : Byte) (s : State) : Result := readMem 0x04 (accZp b) opNop s

/-- 0x0C `NOP abs` (rules R256, R90). -/
def execNopAbs0C (w : Word) (s : State) : Result := readMem 0x0C (accAbs w) opNop s

/-- 0x14 `NOP zp,X` (rules R256, R88). -/
def execNopZpx14 (b : Byte) (s : State) : Result := readMem 0x14 (accZpx b s) opNop s

/-- 0x1C `NOP abs,X` (rules R256, R91). -/
def execNopAbx1C (w : Word) (s : State) : Result := readMem 0x1C (accAbx w s) opNop s

/-- 0x34 `NOP zp,X` (rules R256, R88). -/
def execNopZpx34 (b : Byte) (s : State) : Result := readMem 0x34 (accZpx b s) opNop s

/-- 0x3C `NOP abs,X` (rules R256, R91). -/
def execNopAbx3C (w : Word) (s : State) : Result := readMem 0x3C (accAbx w s) opNop s

/-- 0x44 `NOP zp` (rules R256, R87). -/
def execNopZp44 (b : Byte) (s : State) : Result := readMem 0x44 (accZp b) opNop s

/-- 0x54 `NOP zp,X` (rules R256, R88). -/
def execNopZpx54 (b : Byte) (s : State) : Result := readMem 0x54 (accZpx b s) opNop s

/-- 0x5C `NOP abs,X` (rules R256, R91). -/
def execNopAbx5C (w : Word) (s : State) : Result := readMem 0x5C (accAbx w s) opNop s

/-- 0x64 `NOP zp` (rules R256, R87). -/
def execNopZp64 (b : Byte) (s : State) : Result := readMem 0x64 (accZp b) opNop s

/-- 0x74 `NOP zp,X` (rules R256, R88). -/
def execNopZpx74 (b : Byte) (s : State) : Result := readMem 0x74 (accZpx b s) opNop s

/-- 0x7C `NOP abs,X` (rules R256, R91). -/
def execNopAbx7C (w : Word) (s : State) : Result := readMem 0x7C (accAbx w s) opNop s

/-- 0xD4 `NOP zp,X` (rules R256, R88). -/
def execNopZpxD4 (b : Byte) (s : State) : Result := readMem 0xD4 (accZpx b s) opNop s

/-- 0xDC `NOP abs,X` (rules R256, R91). -/
def execNopAbxDC (w : Word) (s : State) : Result := readMem 0xDC (accAbx w s) opNop s

/-- 0xF4 `NOP zp,X` (rules R256, R88). -/
def execNopZpxF4 (b : Byte) (s : State) : Result := readMem 0xF4 (accZpx b s) opNop s

/-- 0xFC `NOP abs,X` (rules R256, R91). -/
def execNopAbxFC (w : Word) (s : State) : Result := readMem 0xFC (accAbx w s) opNop s

/-- 0x8B `ANE #` (rules R257, R86). -/
def execAneImm (_b : Byte) (_s : State) : Result := .refused (.refusedEncoding "ANE")

/-- 0xAB `LXA #` (rules R258, R86). -/
def execLxaImm (_b : Byte) (_s : State) : Result := .refused (.refusedEncoding "LXA")

/-- 0x93 `SHA (zp),Y` (rules R259, R94). -/
def execShaIzy (_b : Byte) (_s : State) : Result := .refused (.refusedEncoding "SHA")

/-- 0x9F `SHA abs,Y` (rules R259, R92). -/
def execShaAby (_w : Word) (_s : State) : Result := .refused (.refusedEncoding "SHA")

/-- 0x9E `SHX abs,Y` (rules R260, R92). -/
def execShxAby (_w : Word) (_s : State) : Result := .refused (.refusedEncoding "SHX")

/-- 0x9C `SHY abs,X` (rules R261, R91). -/
def execShyAbx (_w : Word) (_s : State) : Result := .refused (.refusedEncoding "SHY")

/-- 0x9B `TAS abs,Y` (rules R262, R92). -/
def execTasAby (_w : Word) (_s : State) : Result := .refused (.refusedEncoding "TAS")

/-- 0x02 `JAM` (rules R263, R84). -/
def execJam02 (_s : State) : Result := .refused (.refusedEncoding "JAM")

/-- 0x12 `JAM` (rules R263, R84). -/
def execJam12 (_s : State) : Result := .refused (.refusedEncoding "JAM")

/-- 0x22 `JAM` (rules R263, R84). -/
def execJam22 (_s : State) : Result := .refused (.refusedEncoding "JAM")

/-- 0x32 `JAM` (rules R263, R84). -/
def execJam32 (_s : State) : Result := .refused (.refusedEncoding "JAM")

/-- 0x42 `JAM` (rules R263, R84). -/
def execJam42 (_s : State) : Result := .refused (.refusedEncoding "JAM")

/-- 0x52 `JAM` (rules R263, R84). -/
def execJam52 (_s : State) : Result := .refused (.refusedEncoding "JAM")

/-- 0x62 `JAM` (rules R263, R84). -/
def execJam62 (_s : State) : Result := .refused (.refusedEncoding "JAM")

/-- 0x72 `JAM` (rules R263, R84). -/
def execJam72 (_s : State) : Result := .refused (.refusedEncoding "JAM")

/-- 0x92 `JAM` (rules R263, R84). -/
def execJam92 (_s : State) : Result := .refused (.refusedEncoding "JAM")

/-- 0xB2 `JAM` (rules R263, R84). -/
def execJamB2 (_s : State) : Result := .refused (.refusedEncoding "JAM")

/-- 0xD2 `JAM` (rules R263, R84). -/
def execJamD2 (_s : State) : Result := .refused (.refusedEncoding "JAM")

/-- 0xF2 `JAM` (rules R263, R84). -/
def execJamF2 (_s : State) : Result := .refused (.refusedEncoding "JAM")

end Sys2Proof.Machine
end

