-- ==== Sys2Proof/Machine/HostCalls.lean ====
section
/-! DEFINITION. The CPU's `tick` and what else the host may do to the hardware (60_exceptions.md rule R312). -/

namespace Sys2Proof.Machine

/-! ## The CPU's step -/

/-- The instruction at PC (rules R29, R64, R80): its opcode byte and the two bytes after it, read from memory now. -/
def fetch (s : State) : Instr := decodeOp (s.read s.pc) (s.read (s.pc + 1)) (s.read (s.pc + 2))

/-- `tick()` (rules R9, R302): one instruction; refused before any `init` (rule R406, U8). -/
def tick (s : State) : Result := if s.cpuReady then exec (fetch s) s else .refused .tickBeforeInit

/-! ## The other calls -/

/-- `init(entryAddress, accumulatorSeed)` (rules R43, R401): memory and the device are not touched; IR, `addr`,
`storadd` and `cycles` hold fresh free values until the next tick writes them (U3; log entry 7). -/
def cpuInit (entryAddress accumulatorSeed : Nat) (s : State) : State :=
  let n := s.draws
  { s with
    a := BitVec.ofNat 8 accumulatorSeed
    x := 0
    y := 0
    sp := spReset
    p := pReset
    pc := BitVec.ofNat 16 entryAddress
    ir := Config.freeByte n
    addr := Config.freeAddr n
    storadd := Config.freeAddr (n + 1)
    cycles := Config.freeCycles n
    draws := n + 2
    cpuReady := true }

/-- Reseed (rules R46, R316, R405): PC and SP only. -/
def reseed (playAddress : Word) (s : State) : State := (s.setPc playAddress).setSp spReset

/-- A channel with the selected envelope state bits cleared (rule R318). -/
def clearBits (gate attack decaysustain holdzero : Bool) (ch : Channel) : Channel :=
  { ch with
    gate := ch.gate && !gate
    attack := ch.attack && !attack
    decaysustain := ch.decaysustain && !decaysustain
    holdzero := ch.holdzero && !holdzero }

/-- A chip with one voice changed by `f`. -/
def mapVoice (v : Voice) (f : Channel → Channel) (c : Chip) : Chip :=
  match v with
  | .voice0 => { c with voice0 := f c.voice0 }
  | .voice1 => { c with voice1 := f c.voice1 }
  | .voice2 => { c with voice2 := f c.voice2 }

/-- What each host call does (rule R312). -/
def runCall (call : HostCall) (s : State) : Result :=
  match call with
  | .writeMemory a v => .next (s.write a v)
  | .init entryAddress accumulatorSeed => .next (cpuInit entryAddress accumulatorSeed s)
  | .tick => tick s
  | .reseed playAddress => .next (reseed playAddress s)
  | .chipInit => .next (chipInit s)
  | .emulate i base => emulate i base s
  | .setChipCount n => .next { s with chipCount := n }
  | .setChipBase i base => .next (s.setChip i { s.chip i with base := base })
  | .setChipModel i model => .next (s.setChip i { s.chip i with model := model })
  | .clearEnvelope i v gate attack decaysustain holdzero =>
    .next (s.setChip i (mapVoice v (clearBits gate attack decaysustain holdzero) (s.chip i)))

/-- One step of the block (rule R2): the host call that is due, or a `tick` when none is. -/
def stepOnce (s : State) : Result :=
  match s.calls with
  | [] => tick s
  | call :: rest => runCall call { s with calls := rest }

/-- The state with an instruction of the opcode table at PC, ready to be the next step (log entry 13): its three bytes
written, no host call due before it, and `init` done. -/
def placeWord (s : State) (nbits w : Nat) : State :=
  let t := ((s.write s.pc (tableByte nbits w 0)).write (s.pc + 1) (tableByte nbits w 1)).write (s.pc + 2)
    (tableByte nbits w 2)
  { t with calls := [], cpuReady := true }

end Sys2Proof.Machine
end

