-- ==== Sys2Proof/Safety.lean ====
section
/-! DEFINITION. The terms in which claims about the machine are made: what it is to complete, what a frame says, the
operand forms of the instructions, and the invariant of the state. -/

namespace Sys2Proof.Safety

open Sys2Proof.Machine

/-! ## Completion and frames -/

/-- `i` run in `s` answers a next state, and that state satisfies `P`. -/
def Completes (i : Instr) (s : State) (P : State → Prop) : Prop := ∃ t, exec i s = .next t ∧ P t

/-- Every byte of memory reads as before. -/
def MemSame (s t : State) : Prop := ∀ c, t.read c = s.read c

/-- The byte at `ea` is `v`, and every other byte of memory reads as before. -/
def MemStored (ea : Word) (v : Byte) (s t : State) : Prop :=
  t.read ea = v ∧ ∀ c, c ≠ ea → t.read c = s.read c

/-- A, X, Y and SP hold these values. -/
def Regs (t : State) (a x y sp : Byte) : Prop := t.a = a ∧ t.x = x ∧ t.y = y ∧ t.sp = sp

/-- N and Z are those of `v` (rule R120). -/
def FlagsNZ (t : State) (v : Byte) : Prop := t.flag .n = v.getLsbD 7 ∧ t.flag .z = decide (v = 0)

/-- Every flag that is not in `fs` is as before. -/
def FlagsExcept (fs : List Flag) (s t : State) : Prop := ∀ f, f ∉ fs → t.flag f = s.flag f

/-- The sound device, what the host sets, the parameters, the calls still due and the reset marks are as before. -/
def Elsewhere (s t : State) : Prop :=
  t.chip0 = s.chip0 ∧ t.chip1 = s.chip1 ∧ t.chip2 = s.chip2 ∧ t.chipCount = s.chipCount ∧ t.params = s.params ∧
    t.calls = s.calls ∧ t.cpuReady = s.cpuReady ∧ t.devReady = s.devReady

/-- The outputs of a tick with status 0: IR, the store address, the status and the cycle cost. -/
def Outputs (t : State) (op : Byte) (storadd : Word) (cycles : Nat) : Prop :=
  t.ir = op ∧ t.storadd = storadd ∧ t.status = 0 ∧ t.cycles = cycles

/-- What a sentinel tick leaves (rule R301): everything but IR, the store address, the status and the two free outputs. -/
def SentinelTick (op status : Byte) (s t : State) : Prop :=
  t.status = status ∧ t.ir = op ∧ t.storadd = 0 ∧ t.pc = s.pc ∧ t.p = s.p ∧ Regs t s.a s.x s.y s.sp ∧ MemSame s t ∧
    Elsewhere s t

/-- The channel of a voice of a chip. -/
def voiceOf (c : Chip) : Voice → Channel
  | .voice0 => c.voice0
  | .voice1 => c.voice1
  | .voice2 => c.voice2

/-! ## Operand forms -/

/-- One operand form of an instruction in a state: the instruction, its opcode byte, the effective address, whether
indexing crossed a page, the length, and the operand. -/
structure Form where
  instr : Instr
  opcode : Byte
  ea : Word
  crossed : Bool
  len : Word
  operand : Byte

/-- The form of an access: its operand is the byte at the effective address. -/
def Form.at (i : Instr) (op : Byte) (acc : Access) (s : State) : Form :=
  { instr := i, opcode := op, ea := acc.ea, crossed := acc.crossed, len := acc.len, operand := s.read acc.ea }

def Form.imm (i : Instr) (op b : Byte) (s : State) : Form :=
  { instr := i, opcode := op, ea := s.pc + 1, crossed := false, len := 2, operand := b }

/-- What a form with an effective address has beside its effect: its encoding, IR, PC past it, `addr`, no store
address, status 0, the cycle cost (rules R25, R29 to R32). -/
def Form.Retired (f : Form) (s t : State) : Prop :=
  f.instr.opcode = f.opcode ∧ t.pc = s.pc + f.len ∧ t.addr = f.ea ∧ t.draws = s.draws ∧
    Outputs t f.opcode 0 (cycleTable f.opcode false f.crossed) ∧ Elsewhere s t

/-- As `Form.Retired` for a store instruction: the store address is the effective address (rule R31). -/
def Form.RetiredStore (f : Form) (s t : State) : Prop :=
  f.instr.opcode = f.opcode ∧ t.pc = s.pc + f.len ∧ t.addr = f.ea ∧ t.draws = s.draws ∧
    Outputs t f.opcode f.ea (cycleTable f.opcode false f.crossed) ∧ Elsewhere s t

/-- What a one-byte instruction has beside its effect; `addr` is a free value (rule R30). -/
def RetiredAlone (i : Instr) (op : Byte) (s t : State) : Prop :=
  i.opcode = op ∧ t.pc = s.pc + 1 ∧ Outputs t op 0 (cycleTable op false false) ∧ Elsewhere s t

/-- A form that reads its operand and leaves these registers, N and Z from `v`, everything else as before. -/
def Form.Reads (f : Form) (s : State) (a x y sp v : Byte) : Prop :=
  Completes f.instr s fun t =>
    Regs t a x y sp ∧ FlagsNZ t v ∧ FlagsExcept [.n, .z] s t ∧ MemSame s t ∧ f.Retired s t

/-- A form that stores `v` at its effective address and changes nothing else (rule R31 for the store address). -/
def Form.Stores (f : Form) (s : State) (v : Byte) : Prop :=
  Completes f.instr s fun t =>
    Regs t s.a s.x s.y s.sp ∧ FlagsExcept [] s t ∧ MemStored f.ea v s t ∧ f.RetiredStore s t

/-- A form that compares `reg` with its operand (rule R123): C, Z and N, nothing else. -/
def Form.Compares (f : Form) (s : State) (reg : Byte) : Prop :=
  Completes f.instr s fun t =>
    t.flag .c = decide (f.operand.toNat ≤ reg.toNat) ∧ t.flag .z = decide (reg = f.operand) ∧
      t.flag .n = (reg - f.operand).getLsbD 7 ∧ FlagsExcept [.c, .z, .n] s t ∧ Regs t s.a s.x s.y s.sp ∧
      MemSame s t ∧ f.Retired s t

/-- A form that replaces the byte at its effective address by `r`, with N and Z from `r` and C as given. -/
def Form.Shifts (f : Form) (s : State) (r : Byte) (c : Bool) : Prop :=
  Completes f.instr s fun t =>
    MemStored f.ea r s t ∧ t.flag .c = c ∧ FlagsNZ t r ∧ FlagsExcept [.n, .z, .c] s t ∧ Regs t s.a s.x s.y s.sp ∧
      f.Retired s t

/-- The accumulator form of a shift: A becomes `r`, with N and Z from `r` and C as given. -/
def ShiftsA (i : Instr) (op : Byte) (s : State) (r : Byte) (c : Bool) : Prop :=
  Completes i s fun t =>
    Regs t r s.x s.y s.sp ∧ t.flag .c = c ∧ FlagsNZ t r ∧ FlagsExcept [.n, .z, .c] s t ∧ MemSame s t ∧
      RetiredAlone i op s t

/-- A one-byte instruction that leaves these registers, N and Z from `v`, everything else as before. -/
def Moves (i : Instr) (op : Byte) (s : State) (a x y sp v : Byte) : Prop :=
  Completes i s fun t =>
    Regs t a x y sp ∧ FlagsNZ t v ∧ FlagsExcept [.n, .z] s t ∧ MemSame s t ∧ RetiredAlone i op s t

/-- An undocumented read-modify-write form (44_undocumented.md section 1): the byte at the effective address becomes
`r`, A becomes `a` with N and Z from it, C as given. -/
def Form.ShiftsThen (f : Form) (s : State) (r a : Byte) (c : Bool) : Prop :=
  Completes f.instr s fun t =>
    MemStored f.ea r s t ∧ Regs t a s.x s.y s.sp ∧ t.flag .c = c ∧ FlagsNZ t a ∧ FlagsExcept [.n, .z, .c] s t ∧
      f.Retired s t

/-- The flags of an addition of `a`, `m` and a carry `c` (rule R121): C and V, with the result. -/
def AddFlags (t : State) (a m : Byte) (c : Bool) : Prop :=
  t.flag .c = decide (a.toNat + m.toNat + c.toNat > 255) ∧
    (t.flag .v = true ↔ a.toInt + m.toInt + (c.toNat : Int) < -128 ∨ a.toInt + m.toInt + (c.toNat : Int) > 127)

/-- The flags of a subtraction of `m` and a borrow `1 - c` from `a` (rule R122). -/
def SubFlags (t : State) (a m : Byte) (c : Bool) : Prop :=
  t.flag .c = decide ((a.toNat : Int) - m.toNat - (1 - (c.toNat : Int)) ≥ 0) ∧
    (t.flag .v = true ↔ a.toInt - m.toInt - (1 - (c.toNat : Int)) < -128 ∨ a.toInt - m.toInt - (1 - (c.toNat : Int)) > 127)

/-- The result of an addition (rule R121). -/
def sumByte (a m : Byte) (c : Bool) : Byte := BitVec.ofNat 8 (a.toNat + m.toNat + c.toNat)

/-- The result of a subtraction (rule R122). -/
def differenceByte (a m : Byte) (c : Bool) : Byte := BitVec.ofInt 8 ((a.toNat : Int) - m.toNat - (1 - (c.toNat : Int)))

/-- A chip no gate has opened: every voice in hold-zero at 0 with its gate off, the integrators at 0. -/
def Silent (c : Chip) : Prop :=
  (∀ ch ∈ [c.voice0, c.voice1, c.voice2], ch.gate = false ∧ ch.holdzero = true ∧ ch.envcnt = 0) ∧
    c.lowpass = 0 ∧ c.bandpass = 0

/-- The eight forms shared by the accumulator/ALU instructions (40_alu.md), with their opcode bytes in this order:
immediate, zp, zp,X, abs, abs,X, abs,Y, (zp,X), (zp),Y. -/
def aluForms (imm zp zpx : Byte → Instr) (abs abx aby : Word → Instr) (izx izy : Byte → Instr)
    (o1 o2 o3 o4 o5 o6 o7 o8 : Byte) (s : State) (b : Byte) (w : Word) : List Form :=
  [Form.imm (imm b) o1 b s, Form.at (zp b) o2 (accZp b) s, Form.at (zpx b) o3 (accZpx b s) s,
    Form.at (abs w) o4 (accAbs w) s, Form.at (abx w) o5 (accAbx w s) s, Form.at (aby w) o6 (accAby w s) s,
    Form.at (izx b) o7 (accIzx b s) s, Form.at (izy b) o8 (accIzy b s) s]

def oraForms := aluForms .oraImm .oraZp .oraZpx .oraAbs .oraAbx .oraAby .oraIzx .oraIzy
  0x09 0x05 0x15 0x0D 0x1D 0x19 0x01 0x11
def andForms := aluForms .andImm .andZp .andZpx .andAbs .andAbx .andAby .andIzx .andIzy
  0x29 0x25 0x35 0x2D 0x3D 0x39 0x21 0x31
def eorForms := aluForms .eorImm .eorZp .eorZpx .eorAbs .eorAbx .eorAby .eorIzx .eorIzy
  0x49 0x45 0x55 0x4D 0x5D 0x59 0x41 0x51
def adcForms := aluForms .adcImm .adcZp .adcZpx .adcAbs .adcAbx .adcAby .adcIzx .adcIzy
  0x69 0x65 0x75 0x6D 0x7D 0x79 0x61 0x71
def ldaForms := aluForms .ldaImm .ldaZp .ldaZpx .ldaAbs .ldaAbx .ldaAby .ldaIzx .ldaIzy
  0xA9 0xA5 0xB5 0xAD 0xBD 0xB9 0xA1 0xB1
def cmpForms := aluForms .cmpImm .cmpZp .cmpZpx .cmpAbs .cmpAbx .cmpAby .cmpIzx .cmpIzy
  0xC9 0xC5 0xD5 0xCD 0xDD 0xD9 0xC1 0xD1

/-- The forms of SBC (rule R131) and its second immediate encoding (rule R252). -/
def sbcForms (s : State) (b : Byte) (w : Word) : List Form :=
  aluForms .sbcImm .sbcZp .sbcZpx .sbcAbs .sbcAbx .sbcAby .sbcIzx .sbcIzy
    0xE9 0xE5 0xF5 0xED 0xFD 0xF9 0xE1 0xF1 s b w ++ [Form.imm (.sbcImmEB b) 0xEB b s]

/-- STA (rule R128). -/
def staForms (s : State) (b : Byte) (w : Word) : List Form :=
  [Form.at (.staZp b) 0x85 (accZp b) s, Form.at (.staZpx b) 0x95 (accZpx b s) s, Form.at (.staAbs w) 0x8D (accAbs w) s,
    Form.at (.staAbx w) 0x9D (accAbx w s) s, Form.at (.staAby w) 0x99 (accAby w s) s,
    Form.at (.staIzx b) 0x81 (accIzx b s) s, Form.at (.staIzy b) 0x91 (accIzy b s) s]

/-- STX (rule R145). -/
def stxForms (s : State) (b : Byte) (w : Word) : List Form :=
  [Form.at (.stxZp b) 0x86 (accZp b) s, Form.at (.stxZpy b) 0x96 (accZpy b s) s, Form.at (.stxAbs w) 0x8E (accAbs w) s]

/-- STY (rule R216). -/
def styForms (s : State) (b : Byte) (w : Word) : List Form :=
  [Form.at (.styZp b) 0x84 (accZp b) s, Form.at (.styZpx b) 0x94 (accZpx b s) s, Form.at (.styAbs w) 0x8C (accAbs w) s]

/-- SAX (rule R244). -/
def saxForms (s : State) (b : Byte) (w : Word) : List Form :=
  [Form.at (.saxZp b) 0x87 (accZp b) s, Form.at (.saxZpy b) 0x97 (accZpy b s) s, Form.at (.saxAbs w) 0x8F (accAbs w) s,
    Form.at (.saxIzx b) 0x83 (accIzx b s) s]

/-- LDX (rule R146). -/
def ldxForms (s : State) (b : Byte) (w : Word) : List Form :=
  [Form.imm (.ldxImm b) 0xA2 b s, Form.at (.ldxZp b) 0xA6 (accZp b) s, Form.at (.ldxZpy b) 0xB6 (accZpy b s) s,
    Form.at (.ldxAbs w) 0xAE (accAbs w) s, Form.at (.ldxAby w) 0xBE (accAby w s) s]

/-- LDY (rule R217). -/
def ldyForms (s : State) (b : Byte) (w : Word) : List Form :=
  [Form.imm (.ldyImm b) 0xA0 b s, Form.at (.ldyZp b) 0xA4 (accZp b) s, Form.at (.ldyZpx b) 0xB4 (accZpx b s) s,
    Form.at (.ldyAbs w) 0xAC (accAbs w) s, Form.at (.ldyAbx w) 0xBC (accAbx w s) s]

/-- LAX (rule R245). -/
def laxForms (s : State) (b : Byte) (w : Word) : List Form :=
  [Form.at (.laxZp b) 0xA7 (accZp b) s, Form.at (.laxZpy b) 0xB7 (accZpy b s) s, Form.at (.laxAbs w) 0xAF (accAbs w) s,
    Form.at (.laxAby w) 0xBF (accAby w s) s, Form.at (.laxIzx b) 0xA3 (accIzx b s) s,
    Form.at (.laxIzy b) 0xB3 (accIzy b s) s]

/-- CPX (rule R219). -/
def cpxForms (s : State) (b : Byte) (w : Word) : List Form :=
  [Form.imm (.cpxImm b) 0xE0 b s, Form.at (.cpxZp b) 0xE4 (accZp b) s, Form.at (.cpxAbs w) 0xEC (accAbs w) s]

/-- CPY (rule R218). -/
def cpyForms (s : State) (b : Byte) (w : Word) : List Form :=
  [Form.imm (.cpyImm b) 0xC0 b s, Form.at (.cpyZp b) 0xC4 (accZp b) s, Form.at (.cpyAbs w) 0xCC (accAbs w) s]

/-- BIT (rule R215). -/
def bitForms (s : State) (b : Byte) (w : Word) : List Form :=
  [Form.at (.bitZp b) 0x24 (accZp b) s, Form.at (.bitAbs w) 0x2C (accAbs w) s]

/-- The four memory forms of the shifts, INC and DEC (rules R141 to R144, R147, R148): zp, zp,X, abs, abs,X. -/
def rmwForms (zp zpx : Byte → Instr) (abs abx : Word → Instr) (o1 o2 o3 o4 : Byte) (s : State) (b : Byte) (w : Word) :
    List Form :=
  [Form.at (zp b) o1 (accZp b) s, Form.at (zpx b) o2 (accZpx b s) s, Form.at (abs w) o3 (accAbs w) s,
    Form.at (abx w) o4 (accAbx w s) s]

def aslForms := rmwForms .aslZp .aslZpx .aslAbs .aslAbx 0x06 0x16 0x0E 0x1E
def rolForms := rmwForms .rolZp .rolZpx .rolAbs .rolAbx 0x26 0x36 0x2E 0x3E
def lsrForms := rmwForms .lsrZp .lsrZpx .lsrAbs .lsrAbx 0x46 0x56 0x4E 0x5E
def rorForms := rmwForms .rorZp .rorZpx .rorAbs .rorAbx 0x66 0x76 0x6E 0x7E
def decForms := rmwForms .decZp .decZpx .decAbs .decAbx 0xC6 0xD6 0xCE 0xDE
def incForms := rmwForms .incZp .incZpx .incAbs .incAbx 0xE6 0xF6 0xEE 0xFE

/-- The seven forms of the undocumented read-modify-write instructions (44_undocumented.md section 1): zp, zp,X, abs,
abs,X, abs,Y, (zp,X), (zp),Y. -/
def rmwAluForms (zp zpx : Byte → Instr) (abs abx aby : Word → Instr) (izx izy : Byte → Instr)
    (o1 o2 o3 o4 o5 o6 o7 : Byte) (s : State) (b : Byte) (w : Word) : List Form :=
  [Form.at (zp b) o1 (accZp b) s, Form.at (zpx b) o2 (accZpx b s) s, Form.at (abs w) o3 (accAbs w) s,
    Form.at (abx w) o4 (accAbx w s) s, Form.at (aby w) o5 (accAby w s) s, Form.at (izx b) o6 (accIzx b s) s,
    Form.at (izy b) o7 (accIzy b s) s]

def sloForms := rmwAluForms .sloZp .sloZpx .sloAbs .sloAbx .sloAby .sloIzx .sloIzy 0x07 0x17 0x0F 0x1F 0x1B 0x03 0x13
def rlaForms := rmwAluForms .rlaZp .rlaZpx .rlaAbs .rlaAbx .rlaAby .rlaIzx .rlaIzy 0x27 0x37 0x2F 0x3F 0x3B 0x23 0x33
def sreForms := rmwAluForms .sreZp .sreZpx .sreAbs .sreAbx .sreAby .sreIzx .sreIzy 0x47 0x57 0x4F 0x5F 0x5B 0x43 0x53
def rraForms := rmwAluForms .rraZp .rraZpx .rraAbs .rraAbx .rraAby .rraIzx .rraIzy 0x67 0x77 0x6F 0x7F 0x7B 0x63 0x73
def dcpForms := rmwAluForms .dcpZp .dcpZpx .dcpAbs .dcpAbx .dcpAby .dcpIzx .dcpIzy 0xC7 0xD7 0xCF 0xDF 0xDB 0xC3 0xD3
def iscForms := rmwAluForms .iscZp .iscZpx .iscAbs .iscAbx .iscAby .iscIzx .iscIzy 0xE7 0xF7 0xEF 0xFF 0xFB 0xE3 0xF3

/-- The undocumented NOPs with an operand (rules R255, R256). -/
def nopForms (s : State) (b : Byte) (w : Word) : List Form :=
  [Form.imm (.nopImm80 b) 0x80 b s, Form.imm (.nopImm82 b) 0x82 b s, Form.imm (.nopImm89 b) 0x89 b s,
    Form.imm (.nopImmC2 b) 0xC2 b s, Form.imm (.nopImmE2 b) 0xE2 b s,
    Form.at (.nopZp04 b) 0x04 (accZp b) s, Form.at (.nopZp44 b) 0x44 (accZp b) s, Form.at (.nopZp64 b) 0x64 (accZp b) s,
    Form.at (.nopZpx14 b) 0x14 (accZpx b s) s, Form.at (.nopZpx34 b) 0x34 (accZpx b s) s,
    Form.at (.nopZpx54 b) 0x54 (accZpx b s) s, Form.at (.nopZpx74 b) 0x74 (accZpx b s) s,
    Form.at (.nopZpxD4 b) 0xD4 (accZpx b s) s, Form.at (.nopZpxF4 b) 0xF4 (accZpx b s) s,
    Form.at (.nopAbs0C w) 0x0C (accAbs w) s, Form.at (.nopAbx1C w) 0x1C (accAbx w s) s,
    Form.at (.nopAbx3C w) 0x3C (accAbx w s) s, Form.at (.nopAbx5C w) 0x5C (accAbx w s) s,
    Form.at (.nopAbx7C w) 0x7C (accAbx w s) s, Form.at (.nopAbxDC w) 0xDC (accAbx w s) s,
    Form.at (.nopAbxFC w) 0xFC (accAbx w s) s]

/-- The one-byte NOPs (rules R154, R254) with their opcode bytes. -/
def nopAlone : List (Instr × Byte) :=
  [(.nop, 0xEA), (.nop1A, 0x1A), (.nop3A, 0x3A), (.nop5A, 0x5A), (.nop7A, 0x7A), (.nopDA, 0xDA), (.nopFA, 0xFA)]

/-- The eight branches (rules R201 to R208): the instruction, its opcode byte, the flag it tests and the value it
branches on. -/
def branches (b : Byte) : List (Instr × Byte × Flag × Bool) :=
  [(.bpl b, 0x10, .n, false), (.bmi b, 0x30, .n, true), (.bvc b, 0x50, .v, false), (.bvs b, 0x70, .v, true),
    (.bcc b, 0x90, .c, false), (.bcs b, 0xB0, .c, true), (.bne b, 0xD0, .z, false), (.beq b, 0xF0, .z, true)]

/-- The seven flag instructions (rules R181 to R187): the instruction, its opcode byte, the flag and its new value. -/
def flagInstrs : List (Instr × Byte × Flag × Bool) :=
  [(.clc, 0x18, .c, false), (.sec, 0x38, .c, true), (.cli, 0x58, .i, false), (.sei, 0x78, .i, true),
    (.clv, 0xB8, .v, false), (.cld, 0xD8, .d, false), (.sed, 0xF8, .d, true)]

/-- The 19 opcode bytes of rule R100. -/
def refusedOpcodes : List Byte :=
  [0x02, 0x12, 0x22, 0x32, 0x42, 0x52, 0x62, 0x72, 0x92, 0xB2, 0xD2, 0xF2, 0x8B, 0xAB, 0x93, 0x9F, 0x9E, 0x9C, 0x9B]

/-- The 19 refused instructions with their mnemonics (rules R257 to R263). -/
def refusedInstrs (b : Byte) (w : Word) : List (Instr × String) :=
  [(.jam02, "JAM"), (.jam12, "JAM"), (.jam22, "JAM"), (.jam32, "JAM"), (.jam42, "JAM"), (.jam52, "JAM"),
    (.jam62, "JAM"), (.jam72, "JAM"), (.jam92, "JAM"), (.jamB2, "JAM"), (.jamD2, "JAM"), (.jamF2, "JAM"),
    (.aneImm b, "ANE"), (.lxaImm b, "LXA"), (.shaIzy b, "SHA"), (.shaAby w, "SHA"), (.shxAby w, "SHX"),
    (.shyAbx w, "SHY"), (.tasAby w, "TAS")]

/-! ## The flags an instruction may write (rule R27) -/

/-- The opcode bytes whose instructions write a flag, one list for each flag, in the order of rule R27's table. -/
def flagWriters : Flag → List Byte
  | .n => nzWriters ++ [0xC9, 0xC5, 0xD5, 0xCD, 0xDD, 0xD9, 0xC1, 0xD1, 0xE0, 0xE4, 0xEC, 0xC0, 0xC4, 0xCC, 0x24, 0x2C]
  | .z => nzWriters ++ [0xC9, 0xC5, 0xD5, 0xCD, 0xDD, 0xD9, 0xC1, 0xD1, 0xE0, 0xE4, 0xEC, 0xC0, 0xC4, 0xCC, 0x24, 0x2C]
  | .v => sums ++ [0x24, 0x2C, 0xB8] ++ rras ++ iscs ++ [0x6B] ++ pullers
  | .bit5 => pullers
  | .b => pullers
  | .d => [0xF8, 0xD8] ++ pullers
  | .i => [0x78, 0x58, 0x00] ++ pullers
  | .c => sums ++ [0xC9, 0xC5, 0xD5, 0xCD, 0xDD, 0xD9, 0xC1, 0xD1, 0xE0, 0xE4, 0xEC, 0xC0, 0xC4, 0xCC] ++ shifts ++
      [0x38, 0x18] ++ pullers ++ rmws ++ [0x0B, 0x2B, 0x4B, 0x6B, 0xCB]
where
  pullers : List Byte := [0x28, 0x40]
  sums : List Byte := [0x69, 0x65, 0x75, 0x6D, 0x7D, 0x79, 0x61, 0x71, 0xE9, 0xE5, 0xF5, 0xED, 0xFD, 0xF9, 0xE1, 0xF1, 0xEB]
  rras : List Byte := [0x67, 0x77, 0x6F, 0x7F, 0x7B, 0x63, 0x73]
  iscs : List Byte := [0xE7, 0xF7, 0xEF, 0xFF, 0xFB, 0xE3, 0xF3]
  shifts : List Byte := [0x0A, 0x06, 0x16, 0x0E, 0x1E, 0x4A, 0x46, 0x56, 0x4E, 0x5E, 0x2A, 0x26, 0x36, 0x2E, 0x3E,
    0x6A, 0x66, 0x76, 0x6E, 0x7E]
  rmws : List Byte := [0x07, 0x17, 0x0F, 0x1F, 0x1B, 0x03, 0x13, 0x27, 0x37, 0x2F, 0x3F, 0x3B, 0x23, 0x33,
    0x47, 0x57, 0x4F, 0x5F, 0x5B, 0x43, 0x53, 0xC7, 0xD7, 0xCF, 0xDF, 0xDB, 0xC3, 0xD3] ++ rras ++ iscs
  nzWriters : List Byte := [0x09, 0x05, 0x15, 0x0D, 0x1D, 0x19, 0x01, 0x11, 0x29, 0x25, 0x35, 0x2D, 0x3D, 0x39, 0x21, 0x31,
    0x49, 0x45, 0x55, 0x4D, 0x5D, 0x59, 0x41, 0x51] ++ sums ++ [0xA9, 0xA5, 0xB5, 0xAD, 0xBD, 0xB9, 0xA1, 0xB1,
    0xA2, 0xA6, 0xB6, 0xAE, 0xBE, 0xA0, 0xA4, 0xB4, 0xAC, 0xBC, 0xAA, 0xA8, 0x8A, 0x98, 0xBA, 0xE8, 0xC8, 0xCA, 0x88,
    0xE6, 0xF6, 0xEE, 0xFE, 0xC6, 0xD6, 0xCE, 0xDE, 0x68] ++ shifts ++ pullers ++ rmws ++
    [0xA7, 0xB7, 0xAF, 0xBF, 0xA3, 0xB3, 0x0B, 0x2B, 0x4B, 0x6B, 0xCB, 0xBB]

/-! ## What an instruction can see -/

/-- The part of the state an instruction works on: the registers, memory and the parameters. -/
structure Visible where
  a : Byte
  x : Byte
  y : Byte
  sp : Byte
  pc : Word
  p : Byte
  mem : List Host.Cell
  params : Params

/-- The visible part of a state. -/
def visible (s : State) : Visible :=
  { a := s.a, x := s.x, y := s.y, sp := s.sp, pc := s.pc, p := s.p, mem := s.mem, params := s.params }

/-! ## The invariant of the state -/

/-- The ranges of rule R37, the accumulator at rest (rule R350), and hold-zero only at 0 (rule R348). -/
abbrev ChannelInv (ch : Channel) : Prop :=
  0 ≤ ch.ratecnt ∧ ch.ratecnt < 0x8000 ∧ 0 ≤ ch.phase ∧ ch.phase < 0x1000000 ∧ ch.prevphase = ch.phase ∧
    (ch.holdzero = true → ch.envcnt = 0)

/-- Every voice of the chip keeps the ranges. -/
abbrev ChipInv (c : Chip) : Prop := ChannelInv c.voice0 ∧ ChannelInv c.voice1 ∧ ChannelInv c.voice2

/-- Memory is in canonical form, the sentinels are non-zero and distinct (rule R301), and every channel is in range. -/
abbrev Inv (s : State) : Prop :=
  memWf s.mem = true ∧ s.params.sentinelRts ≠ 0 ∧ s.params.sentinelRti ≠ 0 ∧
    s.params.sentinelRts ≠ s.params.sentinelRti ∧ ChipInv s.chip0 ∧ ChipInv s.chip1 ∧ ChipInv s.chip2

end Sys2Proof.Safety
end

