-- ==== Sys2Proof/Certificates/Slice0/Obligations.lean ====
section
/-! DEFINITION. The statements about the machine. Each docstring names the rules of spec/ it formalises; where a clause
rests on a decision of the spec's own (92_eei_decisions.md) or on a log entry, it says so. -/

open Sys2Proof Sys2Proof.Machine Sys2Proof.Safety

/-! ## Encoding -/

/-- One word of each family of 30_encoding.md rule R82 and of the undocumented and refused instructions, written out bit
by bit, decodes to the instruction rule R99 gives. -/
def Obligations.SpecWordsDecode : Prop :=
  ∀ b lo hi : Byte, ∀ rest : List Byte,
    decode (0b00001001 :: b :: rest) = .ok (.oraImm b, rest) ∧
    decode (0b10111101 :: lo :: hi :: rest) = .ok (.ldaAbx (joinBytes hi lo), rest) ∧
    decode (0b10110110 :: b :: rest) = .ok (.ldxZpy b, rest) ∧
    decode (0b01101010 :: rest) = .ok (.rorAcc, rest) ∧
    decode (0b00001000 :: rest) = .ok (.php, rest) ∧
    decode (0b01101100 :: lo :: hi :: rest) = .ok (.jmpInd (joinBytes hi lo), rest) ∧
    decode (0b11110000 :: b :: rest) = .ok (.beq b, rest) ∧
    decode (0b10110011 :: b :: rest) = .ok (.laxIzy b, rest) ∧
    decode (0b11101011 :: b :: rest) = .ok (.sbcImmEB b, rest) ∧
    decode (0b00000010 :: rest) = .ok (.jam02, rest)

/-- Rules R80, R97 and R99: every instruction, with every operand, is decoded from its own encoding, and decoding takes
exactly its bytes. -/
def Obligations.DecodeOfEncode : Prop := ∀ (i : Instr) (rest : List Byte), decode (encode i ++ rest) = .ok (i, rest)

/-- Rules R80, R99 and R107: bytes that decode are the encoding of what they decode to, followed by the rest; no two
instructions share an encoding. -/
def Obligations.EncodeOfDecode : Prop :=
  ∀ (bytes rest : List Byte) (i : Instr), decode bytes = .ok (i, rest) → bytes = encode i ++ rest

/-- Rules R100 and R109 (the spec's decisions D1, D19): the instructions that are not well formed are exactly those of
the 19 refused opcode bytes. -/
def Obligations.RefusedBytesAreIllFormed : Prop := ∀ i : Instr, WellFormed i ↔ i.opcode ∉ refusedOpcodes

/-! ## The step -/

/-- Rules R9, R29, R64, R80: with no host call due and `init` done, a step is the instruction that the bytes at PC decode
to; the meaning itself moves PC and sets the outputs. That a step is a `tick` when no host call is due is the model's
(log entry 3). -/
def Obligations.StepRunsDecoded : Prop :=
  ∀ (s : State) (i : Instr) (rest : List Byte), s.calls = [] → s.cpuReady = true →
    decode [s.read s.pc, s.read (s.pc + 1), s.read (s.pc + 2)] = .ok (i, rest) → step s = exec i s

/-- Rules R10 and R109: every admitted instruction has a successor state in every state, and so has every `emulate` of an
active chip after `chip_init`. -/
def Obligations.AdmittedInstructionsComplete : Prop :=
  (∀ (i : Instr) (s : State), WellFormed i → ∃ t, exec i s = .next t) ∧
    ∀ (i : ChipIndex) (base : Word) (s : State), s.devReady = true → chipActive s.chipCount i = true →
      ∃ t, emulate i base s = .next t

/-- Rules R11, R100, R257 to R263 (the spec's decisions D1, D19): the 19 refused encodings have no successor state. -/
def Obligations.RefusedInstructionsStop : Prop :=
  ∀ (s : State) (b : Byte) (w : Word), ∀ p ∈ refusedInstrs b w, exec p.1 s = .refused (.refusedEncoding p.2)

/-! ## Reset and the host's calls -/

/-- Rule R43 (values: the spec's decision D3): the host call `init`. That the call is the head of a list of due calls is
the model's (log entry 3). -/
def Obligations.InitSetsCpu : Prop :=
  ∀ (s : State) (entry seed : Nat) (rest : List HostCall), s.calls = .init entry seed :: rest →
    ∃ t, step s = .next t ∧ t.pc.toNat = entry % 0x10000 ∧ t.a.toNat = seed % 256 ∧ t.x = 0 ∧ t.y = 0 ∧ t.p = 0x00 ∧
      t.sp = 0xFF ∧ MemSame s t ∧ t.chip0 = s.chip0 ∧ t.chip1 = s.chip1 ∧ t.chip2 = s.chip2 ∧
      t.chipCount = s.chipCount ∧ t.params = s.params ∧ t.calls = rest ∧ t.devReady = s.devReady

/-- Rules R46 and R316 (value of SP: the spec's decision D3): a reseed sets PC and SP only. -/
def Obligations.ReseedSetsPcAndSpOnly : Prop :=
  ∀ (s : State) (target : Word) (rest : List HostCall), s.calls = .reseed target :: rest →
    ∃ t, step s = .next t ∧ t = { s with pc := target, sp := 0xFF, calls := rest }

/-- Rules R44 and R403 (window length and zeros: the spec's decisions D21, D27): after `chip_init` every byte of an
active chip's window is 0, every other byte is as before, every channel is in hold-zero with its noise register at
0x7FFFF8 and the rest 0, and the CPU is untouched. -/
def Obligations.ChipInitResult : Prop :=
  ∀ (s : State) (rest : List HostCall), s.calls = .chipInit :: rest →
    ∃ t, step s = .next t ∧
      (∀ i, chipActive s.chipCount i = true → ∀ k, k < 0x20 → t.read ((s.chip i).base + BitVec.ofNat 16 k) = 0) ∧
      (∀ c, (∀ i, chipActive s.chipCount i = true → ∀ k, k < 0x20 → c ≠ (s.chip i).base + BitVec.ofNat 16 k) →
        t.read c = s.read c) ∧
      (∀ i, t.chip i = { s.chip i with
        voice0 := Channel.reset, voice1 := Channel.reset, voice2 := Channel.reset, srcMSB := false, srcMSBrise := false,
        lowpass := 0, bandpass := 0 }) ∧
      Channel.reset.holdzero = true ∧ Channel.reset.envcnt = 0 ∧ Channel.reset.lfsr = 0x7FFFF8 ∧
      Regs t s.a s.x s.y s.sp ∧ t.pc = s.pc ∧ t.p = s.p ∧ t.ir = s.ir ∧ t.addr = s.addr ∧ t.storadd = s.storadd ∧
      t.cycles = s.cycles ∧ t.params = s.params ∧ t.chipCount = s.chipCount ∧ t.calls = rest ∧ t.devReady = true

/-- Rules R66, R312, R318: the host's other calls. Writing a byte changes that byte only; a setting changes that setting
only; clearing envelope state bits clears the chosen bits of the chosen voice only; `tick` and `emulate` are the two
steps. That the calls due stand in a list is the model's (log entry 3), and which bits the host clears is open (log
entry 21). -/
def Obligations.OtherHostCallsResult : Prop :=
  ∀ (s : State) (rest : List HostCall) (c base : Word) (b : Byte) (n : ChipCount) (i : ChipIndex) (m : ChipModel),
    (s.calls = .writeMemory c b :: rest →
      ∃ t, step s = .next t ∧ MemStored c b s t ∧ t = { s with mem := t.mem, calls := rest }) ∧
    (s.calls = .setChipCount n :: rest → step s = .next { s with chipCount := n, calls := rest }) ∧
    (s.calls = .setChipBase i base :: rest → ∃ t, step s = .next t ∧ t.chip i = { s.chip i with base := base } ∧
      (∀ j, j ≠ i → t.chip j = s.chip j) ∧
      t = { s with chip0 := t.chip0, chip1 := t.chip1, chip2 := t.chip2, calls := rest }) ∧
    (s.calls = .setChipModel i m :: rest → ∃ t, step s = .next t ∧ t.chip i = { s.chip i with model := m } ∧
      (∀ j, j ≠ i → t.chip j = s.chip j) ∧
      t = { s with chip0 := t.chip0, chip1 := t.chip1, chip2 := t.chip2, calls := rest }) ∧
    (∀ (v : Voice) (g a d h : Bool), s.calls = .clearEnvelope i v g a d h :: rest → ∃ t, step s = .next t ∧
      voiceOf (t.chip i) v = { voiceOf (s.chip i) v with
        gate := (voiceOf (s.chip i) v).gate && !g, attack := (voiceOf (s.chip i) v).attack && !a,
        decaysustain := (voiceOf (s.chip i) v).decaysustain && !d, holdzero := (voiceOf (s.chip i) v).holdzero && !h } ∧
      (∀ w, w ≠ v → voiceOf (t.chip i) w = voiceOf (s.chip i) w) ∧
      t.chip i = { s.chip i with
        voice0 := (t.chip i).voice0, voice1 := (t.chip i).voice1, voice2 := (t.chip i).voice2 } ∧
      (∀ j, j ≠ i → t.chip j = s.chip j) ∧
      t = { s with chip0 := t.chip0, chip1 := t.chip1, chip2 := t.chip2, calls := rest }) ∧
    (s.calls = .tick :: rest → s.cpuReady = true → step s = exec (fetch s) { s with calls := rest }) ∧
    (s.calls = .emulate i base :: rest → step s = emulate i base { s with calls := rest })

/-- Rules R43, R44, R400 (values: the spec's decisions D3, D21, D27): the state after reset. The entry point, the seed
and the windows' addresses are the model's (log entries 2 and 8) and are not claimed here. -/
def Obligations.ResetStateValues : Prop :=
  State.reset.x = 0 ∧ State.reset.y = 0 ∧ State.reset.p = 0x00 ∧ State.reset.sp = 0xFF ∧
    (∀ i, chipActive State.reset.chipCount i = true → ∀ k, k < 0x20 →
      State.reset.read ((State.reset.chip i).base + BitVec.ofNat 16 k) = 0) ∧
    ∀ i, State.reset.chip i = resetChip (State.reset.chip i)

/-- The state after reset meets the invariant. -/
def Obligations.ResetMeetsInvariant : Prop := Inv State.reset

/-- Rules R36, R37, R42, R301, R348: every step, of whichever agent, keeps memory in canonical form, the sentinels
non-zero and distinct, the rate counters and the phase accumulators in their ranges, and hold-zero only at envelope 0. -/
def Obligations.StepKeepsInvariant : Prop := ∀ s t : State, Inv s → step s = .next t → Inv t

/-! ## Arithmetic -/

/-- Rule R121: `AddCore`. -/
def Obligations.AddCoreIsBinaryAddition : Prop :=
  ∀ (a m : Byte) (c : Bool),
    (addCore a m c).r.toNat = (a.toNat + m.toNat + c.toNat) % 256 ∧
    ((addCore a m c).c = true ↔ a.toNat + m.toNat + c.toNat > 255) ∧
    ((addCore a m c).v = true ↔ (a ^^^ (addCore a m c).r) &&& (m ^^^ (addCore a m c).r) &&& 0x80 ≠ 0) ∧
    ((addCore a m c).v = true ↔ a.getLsbD 7 = m.getLsbD 7 ∧ (addCore a m c).r.getLsbD 7 ≠ a.getLsbD 7) ∧
    ((addCore a m c).v = true ↔
      a.toInt + m.toInt + (c.toNat : Int) < -128 ∨ a.toInt + m.toInt + (c.toNat : Int) > 127)

/-- Rule R122: `SubCore`, as an addition of the complement and written out; that the two forms agree is the spec's
inference. -/
def Obligations.SubCoreIsBinarySubtraction : Prop :=
  ∀ (a m : Byte) (c : Bool),
    subCore a m c = addCore a (m ^^^ 0xFF) c ∧
    ((subCore a m c).r.toNat : Int) = ((a.toNat : Int) - m.toNat - (1 - (c.toNat : Int))) % 256 ∧
    ((subCore a m c).c = true ↔ (a.toNat : Int) - m.toNat - (1 - (c.toNat : Int)) ≥ 0) ∧
    ((subCore a m c).v = true ↔ (a ^^^ m) &&& (a ^^^ (subCore a m c).r) &&& 0x80 ≠ 0)

/-! ## Addressing modes -/

/-- Rules R87, R88, R89 for both values of ZP_WRAP (the spec's decision D4). -/
def Obligations.ZeroPageAddresses : Prop :=
  ∀ (s : State) (b : Byte),
    (eaZp b).toNat = b.toNat ∧
    (eaZpx s b).toNat = (if s.params.zpWrap then (b.toNat + s.x.toNat) % 0x100 else b.toNat + s.x.toNat) ∧
    (eaZpy s b).toNat = (if s.params.zpWrap then (b.toNat + s.y.toNat) % 0x100 else b.toNat + s.y.toNat)

/-- Rules R91 and R92: the operand bytes low byte first, plus the index, modulo 0x10000; the length is 3. -/
def Obligations.AbsoluteIndexedAddresses : Prop :=
  ∀ (s : State) (b1 b2 : Byte),
    (eaAbx s (joinBytes b2 b1)).toNat = (0x100 * b2.toNat + b1.toNat + s.x.toNat) % 0x10000 ∧
    (eaAby s (joinBytes b2 b1)).toNat = (0x100 * b2.toNat + b1.toNat + s.y.toNat) % 0x10000 ∧
    Mode.abx.length = 3 ∧ Mode.aby.length = 3

/-- Rules R93 and R94 for both values of ZP_WRAP (the spec's decision D4): where the two bytes of the pointer lie, and
the index added to the pointer's value by `(zp),Y` only. -/
def Obligations.PointerAddresses : Prop :=
  ∀ (s : State) (b : Byte) (q0 q1 r0 r1 : Word),
    q0.toNat = (if s.params.zpWrap then (b.toNat + s.x.toNat) % 0x100 else b.toNat + s.x.toNat) →
    q1.toNat = (if s.params.zpWrap then (b.toNat + s.x.toNat + 1) % 0x100 else b.toNat + s.x.toNat + 1) →
    r0.toNat = b.toNat →
    r1.toNat = (if s.params.zpWrap then (b.toNat + 1) % 0x100 else b.toNat + 1) →
    (eaIzx s b).toNat = 0x100 * (s.read q1).toNat + (s.read q0).toNat ∧
    (eaIzy s b).toNat = (0x100 * (s.read r1).toNat + (s.read r0).toNat + s.y.toNat) % 0x10000

/-! ## Accumulator/ALU instructions -/

/-- Rules R124, R125, R126: ORA, AND, EOR in every form. -/
def Obligations.LogicResults : Prop :=
  ∀ (s : State) (b : Byte) (w : Word),
    (∀ f ∈ oraForms s b w, f.Reads s (s.a ||| f.operand) s.x s.y s.sp (s.a ||| f.operand)) ∧
    (∀ f ∈ andForms s b w, f.Reads s (s.a &&& f.operand) s.x s.y s.sp (s.a &&& f.operand)) ∧
    (∀ f ∈ eorForms s b w, f.Reads s (s.a ^^^ f.operand) s.x s.y s.sp (s.a ^^^ f.operand))

/-- Rule R127: ADC in every form, whatever the D flag is. -/
def Obligations.AdcResult : Prop :=
  ∀ (s : State) (b : Byte) (w : Word), ∀ f ∈ adcForms s b w,
    Completes f.instr s fun t =>
      Regs t (sumByte s.a f.operand (s.flag .c)) s.x s.y s.sp ∧ AddFlags t s.a f.operand (s.flag .c) ∧
        FlagsNZ t (sumByte s.a f.operand (s.flag .c)) ∧ FlagsExcept [.n, .v, .z, .c] s t ∧ MemSame s t ∧ f.Retired s t

/-- Rules R131 and R252: SBC in every form, the second immediate encoding 0xEB among them, whatever the D flag is. -/
def Obligations.SbcResult : Prop :=
  ∀ (s : State) (b : Byte) (w : Word), ∀ f ∈ sbcForms s b w,
    Completes f.instr s fun t =>
      Regs t (differenceByte s.a f.operand (s.flag .c)) s.x s.y s.sp ∧ SubFlags t s.a f.operand (s.flag .c) ∧
        FlagsNZ t (differenceByte s.a f.operand (s.flag .c)) ∧ FlagsExcept [.n, .v, .z, .c] s t ∧ MemSame s t ∧
        f.Retired s t

/-- Rules R129, R146, R217, R245: LDA, LDX, LDY and LAX in every form. -/
def Obligations.LoadResults : Prop :=
  ∀ (s : State) (b : Byte) (w : Word),
    (∀ f ∈ ldaForms s b w, f.Reads s f.operand s.x s.y s.sp f.operand) ∧
    (∀ f ∈ ldxForms s b w, f.Reads s s.a f.operand s.y s.sp f.operand) ∧
    (∀ f ∈ ldyForms s b w, f.Reads s s.a s.x f.operand s.sp f.operand) ∧
    (∀ f ∈ laxForms s b w, f.Reads s f.operand f.operand s.y s.sp f.operand)

/-- Rules R128, R145, R216, R244: STA, STX, STY and SAX in every form, the address stored to being the form's effective
address. -/
def Obligations.StoreResults : Prop :=
  ∀ (s : State) (b : Byte) (w : Word),
    (∀ f ∈ staForms s b w, f.Stores s s.a) ∧ (∀ f ∈ stxForms s b w, f.Stores s s.x) ∧
    (∀ f ∈ styForms s b w, f.Stores s s.y) ∧ (∀ f ∈ saxForms s b w, f.Stores s (s.a &&& s.x))

/-- Rules R123, R130, R218, R219: CMP, CPY and CPX in every form. -/
def Obligations.CompareResults : Prop :=
  ∀ (s : State) (b : Byte) (w : Word),
    (∀ f ∈ cmpForms s b w, f.Compares s s.a) ∧ (∀ f ∈ cpyForms s b w, f.Compares s s.y) ∧
    (∀ f ∈ cpxForms s b w, f.Compares s s.x)

/-- Rule R215: BIT in both forms. -/
def Obligations.BitResult : Prop :=
  ∀ (s : State) (b : Byte) (w : Word), ∀ f ∈ bitForms s b w,
    Completes f.instr s fun t =>
      t.flag .z = decide (s.a &&& f.operand = 0) ∧ t.flag .n = f.operand.getLsbD 7 ∧ t.flag .v = f.operand.getLsbD 6 ∧
        FlagsExcept [.n, .v, .z] s t ∧ Regs t s.a s.x s.y s.sp ∧ MemSame s t ∧ f.Retired s t

/-! ## Shift/register instructions -/

/-- Rules R140 and R141: ASL of memory and of A. -/
def Obligations.AslResult : Prop :=
  ∀ (s : State) (b : Byte) (w : Word),
    (∀ f ∈ aslForms s b w, f.Shifts s (BitVec.ofNat 8 (2 * f.operand.toNat)) (f.operand.getLsbD 7)) ∧
    ShiftsA .aslAcc 0x0A s (BitVec.ofNat 8 (2 * s.a.toNat)) (s.a.getLsbD 7)

/-- Rules R140 and R142: ROL of memory and of A. -/
def Obligations.RolResult : Prop :=
  ∀ (s : State) (b : Byte) (w : Word),
    (∀ f ∈ rolForms s b w,
      f.Shifts s (BitVec.ofNat 8 (2 * f.operand.toNat + (s.flag .c).toNat)) (f.operand.getLsbD 7)) ∧
    ShiftsA .rolAcc 0x2A s (BitVec.ofNat 8 (2 * s.a.toNat + (s.flag .c).toNat)) (s.a.getLsbD 7)

/-- Rules R140 and R143: LSR of memory and of A. -/
def Obligations.LsrResult : Prop :=
  ∀ (s : State) (b : Byte) (w : Word),
    (∀ f ∈ lsrForms s b w, f.Shifts s (BitVec.ofNat 8 (f.operand.toNat / 2)) (f.operand.getLsbD 0)) ∧
    ShiftsA .lsrAcc 0x4A s (BitVec.ofNat 8 (s.a.toNat / 2)) (s.a.getLsbD 0)

/-- Rules R140 and R144: ROR of memory and of A. -/
def Obligations.RorResult : Prop :=
  ∀ (s : State) (b : Byte) (w : Word),
    (∀ f ∈ rorForms s b w,
      f.Shifts s (BitVec.ofNat 8 (f.operand.toNat / 2 + 128 * (s.flag .c).toNat)) (f.operand.getLsbD 0)) ∧
    ShiftsA .rorAcc 0x6A s (BitVec.ofNat 8 (s.a.toNat / 2 + 128 * (s.flag .c).toNat)) (s.a.getLsbD 0)

/-- Rules R147 and R148: DEC and INC in every form; C and V are not written. -/
def Obligations.CountMemoryResults : Prop :=
  ∀ (s : State) (b : Byte) (w : Word),
    (∀ f ∈ decForms s b w, f.Shifts s (BitVec.ofNat 8 (f.operand.toNat + 255)) (s.flag .c)) ∧
    (∀ f ∈ incForms s b w, f.Shifts s (BitVec.ofNat 8 (f.operand.toNat + 1)) (s.flag .c))

/-- Rules R149, R150, R151, R152, R177, R180: the transfers; TXS writes no flag. -/
def Obligations.TransferResults : Prop :=
  ∀ s : State,
    Moves .txa 0x8A s s.x s.x s.y s.sp s.x ∧ Moves .tax 0xAA s s.a s.a s.y s.sp s.a ∧
    Moves .tsx 0xBA s s.a s.sp s.y s.sp s.sp ∧ Moves .tay 0xA8 s s.a s.x s.a s.sp s.a ∧
    Moves .tya 0x98 s s.y s.x s.y s.sp s.y ∧
    Completes .txs s fun t =>
      Regs t s.a s.x s.y s.x ∧ FlagsExcept [] s t ∧ MemSame s t ∧ RetiredAlone .txs 0x9A s t

/-- Rules R153, R176, R178, R179: DEX, DEY, INY, INX wrap modulo 256. -/
def Obligations.CountRegisterResults : Prop :=
  ∀ s : State, ∀ r : Byte,
    (r.toNat = (s.x.toNat + 255) % 256 → Moves .dex 0xCA s s.a r s.y s.sp r) ∧
    (r.toNat = (s.y.toNat + 255) % 256 → Moves .dey 0x88 s s.a s.x r s.sp r) ∧
    (r.toNat = (s.y.toNat + 1) % 256 → Moves .iny 0xC8 s s.a s.x r s.sp r) ∧
    (r.toNat = (s.x.toNat + 1) % 256 → Moves .inx 0xE8 s s.a r s.y s.sp r)

/-- Rules R154, R254, R255, R256: every NOP, official and undocumented, changes nothing but PC and the outputs; a memory
form reports its effective address. -/
def Obligations.NopResults : Prop :=
  ∀ (s : State) (b : Byte) (w : Word),
    (∀ p ∈ nopAlone, Completes p.1 s fun t =>
      Regs t s.a s.x s.y s.sp ∧ FlagsExcept [] s t ∧ MemSame s t ∧ RetiredAlone p.1 p.2 s t) ∧
    (∀ f ∈ nopForms s b w, Completes f.instr s fun t =>
      Regs t s.a s.x s.y s.sp ∧ FlagsExcept [] s t ∧ MemSame s t ∧ f.Retired s t)

/-! ## Stack/flag instructions -/

/-- Rules R170, R171, R174, R175: PHA writes the slot SP names and moves SP down; PLA moves SP up and reads the slot it
then names. -/
def Obligations.PhaAndPlaResults : Prop :=
  ∀ (s : State) (slot next : Word), slot.toNat = 0x100 + s.sp.toNat → next.toNat = 0x100 + (s.sp.toNat + 1) % 256 →
    (Completes .pha s fun t =>
      MemStored slot s.a s t ∧ Regs t s.a s.x s.y (s.sp - 1) ∧ FlagsExcept [] s t ∧ RetiredAlone .pha 0x48 s t) ∧
    Moves .pla 0x68 s (s.read next) s.x s.y (s.sp + 1) (s.read next)

/-- Rules R170 to R173 and R28 (the spec's decisions D6, D7): PHP pushes P with `PUSH_OR_MASK` ORed in and keeps P; PLP
replaces all eight bits. -/
def Obligations.PhpAndPlpResults : Prop :=
  ∀ (s : State) (slot next : Word), slot.toNat = 0x100 + s.sp.toNat → next.toNat = 0x100 + (s.sp.toNat + 1) % 256 →
    (Completes .php s fun t =>
      MemStored slot (s.p ||| s.params.pushOrMask) s t ∧ Regs t s.a s.x s.y (s.sp - 1) ∧ t.p = s.p ∧
        RetiredAlone .php 0x08 s t) ∧
    (Completes .plp s fun t =>
      t.p = s.read next ∧ Regs t s.a s.x s.y (s.sp + 1) ∧ MemSame s t ∧ RetiredAlone .plp 0x28 s t)

/-- Rules R181 to R187 (SED: the spec's decision D9): each flag instruction writes one bit of P and nothing else. -/
def Obligations.FlagInstructionResults : Prop :=
  ∀ s : State, ∀ q ∈ flagInstrs,
    Completes q.1 s fun t =>
      t.flag q.2.2.1 = q.2.2.2 ∧ FlagsExcept [q.2.2.1] s t ∧ Regs t s.a s.x s.y s.sp ∧ MemSame s t ∧
        RetiredAlone q.1 q.2.1 s t

/-! ## Control instructions -/

/-- Rules R200 to R208: the eight branches, taken and not taken. The cycle cost is a function of the outcome and, when
taken, of a page crossing (rule R420). -/
def Obligations.BranchResults : Prop :=
  ∀ (s : State) (b : Byte) (target : Word), target = BitVec.ofInt 16 ((s.pc.toNat : Int) + 2 + b.toInt) →
    ∀ q ∈ branches b,
      Completes q.1 s fun t =>
        q.1.opcode = q.2.1 ∧ t.pc = (if s.flag q.2.2.1 = q.2.2.2 then target else s.pc + 2) ∧
          Outputs t q.2.1 0 (if s.flag q.2.2.1 = q.2.2.2
            then cycleTable q.2.1 true (decide (hiByte target ≠ hiByte (s.pc + 2)))
            else cycleTable q.2.1 false false) ∧
          FlagsExcept [] s t ∧ Regs t s.a s.x s.y s.sp ∧ MemSame s t ∧ Elsewhere s t

/-- Rule R209 (the spec's decisions D6, D8): BRK pushes PC + 2, high byte first, and P with `PUSH_OR_MASK`, sets I and
goes through the vector at 0xFFFE. -/
def Obligations.BrkResult : Prop :=
  ∀ s : State,
    Completes .brk s fun t =>
      t.read (stackSlot s.sp) = hiByte (s.pc + 2) ∧ t.read (stackSlot (s.sp - 1)) = loByte (s.pc + 2) ∧
        t.read (stackSlot (s.sp - 2)) = s.p ||| s.params.pushOrMask ∧
        (∀ c, c ≠ stackSlot s.sp → c ≠ stackSlot (s.sp - 1) → c ≠ stackSlot (s.sp - 2) → t.read c = s.read c) ∧
        t.pc = joinBytes (s.read 0xFFFF) (s.read 0xFFFE) ∧ t.flag .i = true ∧ FlagsExcept [.i] s t ∧
        Regs t s.a s.x s.y (s.sp - 3) ∧ Outputs t 0x00 0 (cycleTable 0x00 false false) ∧ Elsewhere s t

/-- Rule R210: JSR pushes the address of its last byte, high byte first, and goes to its operand. -/
def Obligations.JsrResult : Prop :=
  ∀ (s : State) (w : Word),
    Completes (.jsr w) s fun t =>
      t.read (stackSlot s.sp) = hiByte (s.pc + 2) ∧ t.read (stackSlot (s.sp - 1)) = loByte (s.pc + 2) ∧
        (∀ c, c ≠ stackSlot s.sp → c ≠ stackSlot (s.sp - 1) → t.read c = s.read c) ∧ t.pc = w ∧
        Regs t s.a s.x s.y (s.sp - 2) ∧ FlagsExcept [] s t ∧
        Outputs t 0x20 0 (cycleTable 0x20 false false) ∧ Elsewhere s t ∧ Instr.opcode (.jsr w) = 0x20

/-- Rules R211 and R301 (the empty-stack test and what it leaves: the spec's decision D10; all of P: D7): RTI. -/
def Obligations.RtiResult : Prop :=
  ∀ s : State,
    (s.sp = 0xFF → Completes .rti s fun t => SentinelTick 0x40 s.params.sentinelRti s t) ∧
    (s.sp ≠ 0xFF → Completes .rti s fun t =>
      t.p = s.read (stackSlot (s.sp + 1)) ∧
        t.pc = joinBytes (s.read (stackSlot (s.sp + 3))) (s.read (stackSlot (s.sp + 2))) ∧
        Regs t s.a s.x s.y (s.sp + 3) ∧ MemSame s t ∧ Outputs t 0x40 0 (cycleTable 0x40 false false) ∧
        Elsewhere s t)

/-- Rules R212 and R301 (the empty-stack test and what it leaves: the spec's decision D10): RTS. -/
def Obligations.RtsResult : Prop :=
  ∀ s : State,
    (s.sp = 0xFF → Completes .rts s fun t => SentinelTick 0x60 s.params.sentinelRts s t) ∧
    (s.sp ≠ 0xFF → Completes .rts s fun t =>
      t.pc = joinBytes (s.read (stackSlot (s.sp + 2))) (s.read (stackSlot (s.sp + 1))) + 1 ∧
        Regs t s.a s.x s.y (s.sp + 2) ∧ FlagsExcept [] s t ∧ MemSame s t ∧
        Outputs t 0x60 0 (cycleTable 0x60 false false) ∧ Elsewhere s t)

/-- Rules R213, R214 and R95 for both values of JMP_IND_PAGE_WRAP (the spec's decision D5): where JMP goes. `hi` is the
address of the target's high byte. -/
def Obligations.JmpResults : Prop :=
  ∀ (s : State) (w hi : Word),
    hi.toNat = (if s.params.jmpIndPageWrap then w.toNat / 0x100 * 0x100 + (w.toNat + 1) % 0x100
      else (w.toNat + 1) % 0x10000) →
    (Completes (.jmpAbs w) s fun t =>
      t.pc = w ∧ Regs t s.a s.x s.y s.sp ∧ FlagsExcept [] s t ∧ MemSame s t ∧
        Outputs t 0x4C 0 (cycleTable 0x4C false false) ∧ Elsewhere s t) ∧
    (Completes (.jmpInd w) s fun t =>
      t.pc = joinBytes (s.read hi) (s.read w) ∧ Regs t s.a s.x s.y s.sp ∧ FlagsExcept [] s t ∧ MemSame s t ∧
        Outputs t 0x6C 0 (cycleTable 0x6C false false) ∧ Elsewhere s t)

/-! ## Undocumented instructions -/

/-- Rules R240, R241, R242: SLO, RLA and SRE shift memory, then combine the result with A; C is the shift's. -/
def Obligations.ShiftThenLogicResults : Prop :=
  ∀ (s : State) (b : Byte) (w : Word),
    (∀ f ∈ sloForms s b w, ∀ r : Byte, r = BitVec.ofNat 8 (2 * f.operand.toNat) →
      f.ShiftsThen s r (s.a ||| r) (f.operand.getLsbD 7)) ∧
    (∀ f ∈ rlaForms s b w, ∀ r : Byte, r = BitVec.ofNat 8 (2 * f.operand.toNat + (s.flag .c).toNat) →
      f.ShiftsThen s r (s.a &&& r) (f.operand.getLsbD 7)) ∧
    (∀ f ∈ sreForms s b w, ∀ r : Byte, r = BitVec.ofNat 8 (f.operand.toNat / 2) →
      f.ShiftsThen s r (s.a ^^^ r) (f.operand.getLsbD 0))

/-- Rule R243: RRA rotates memory right, then adds the result and the bit rotated out. -/
def Obligations.RraResult : Prop :=
  ∀ (s : State) (b : Byte) (w : Word), ∀ f ∈ rraForms s b w, ∀ r : Byte,
    r = BitVec.ofNat 8 (f.operand.toNat / 2 + 128 * (s.flag .c).toNat) →
    Completes f.instr s fun t =>
      MemStored f.ea r s t ∧ Regs t (sumByte s.a r (f.operand.getLsbD 0)) s.x s.y s.sp ∧
        AddFlags t s.a r (f.operand.getLsbD 0) ∧ FlagsNZ t (sumByte s.a r (f.operand.getLsbD 0)) ∧
        FlagsExcept [.n, .v, .z, .c] s t ∧ f.Retired s t

/-- Rules R246 and R247: DCP decrements memory, then compares A with the result; ISC increments memory, then subtracts
the result from A. -/
def Obligations.DcpAndIscResults : Prop :=
  ∀ (s : State) (b : Byte) (w : Word),
    (∀ f ∈ dcpForms s b w, ∀ r : Byte, r = BitVec.ofNat 8 (f.operand.toNat + 255) →
      Completes f.instr s fun t =>
        MemStored f.ea r s t ∧ t.flag .c = decide (r.toNat ≤ s.a.toNat) ∧ t.flag .z = decide (s.a = r) ∧
          t.flag .n = (s.a - r).getLsbD 7 ∧ FlagsExcept [.n, .z, .c] s t ∧ Regs t s.a s.x s.y s.sp ∧ f.Retired s t) ∧
    (∀ f ∈ iscForms s b w, ∀ r : Byte, r = BitVec.ofNat 8 (f.operand.toNat + 1) →
      Completes f.instr s fun t =>
        MemStored f.ea r s t ∧ Regs t (differenceByte s.a r (s.flag .c)) s.x s.y s.sp ∧
          SubFlags t s.a r (s.flag .c) ∧ FlagsNZ t (differenceByte s.a r (s.flag .c)) ∧
          FlagsExcept [.n, .v, .z, .c] s t ∧ f.Retired s t)

/-- Rules R248, R249, R250: ANC in both encodings, ALR and ARR. -/
def Obligations.AndImmediateResults : Prop :=
  ∀ (s : State) (b r : Byte),
    (∀ f ∈ [Form.imm (.ancImm0B b) 0x0B b s, Form.imm (.ancImm2B b) 0x2B b s],
      Completes f.instr s fun t =>
        Regs t (s.a &&& b) s.x s.y s.sp ∧ FlagsNZ t (s.a &&& b) ∧ t.flag .c = (s.a &&& b).getLsbD 7 ∧
          FlagsExcept [.n, .z, .c] s t ∧ MemSame s t ∧ f.Retired s t) ∧
    (r = BitVec.ofNat 8 ((s.a &&& b).toNat / 2) →
      Completes (.alrImm b) s fun t =>
        Regs t r s.x s.y s.sp ∧ FlagsNZ t r ∧ t.flag .c = (s.a &&& b).getLsbD 0 ∧
          FlagsExcept [.n, .z, .c] s t ∧ MemSame s t ∧ (Form.imm (.alrImm b) 0x4B b s).Retired s t) ∧
    (r = BitVec.ofNat 8 ((s.a &&& b).toNat / 2 + 128 * (s.flag .c).toNat) →
      Completes (.arrImm b) s fun t =>
        Regs t r s.x s.y s.sp ∧ FlagsNZ t r ∧ t.flag .c = r.getLsbD 6 ∧ t.flag .v = (r.getLsbD 6 ^^ r.getLsbD 5) ∧
          FlagsExcept [.n, .z, .c, .v] s t ∧ MemSame s t ∧ (Form.imm (.arrImm b) 0x6B b s).Retired s t)

/-- Rules R251 and R253: SBX subtracts from A AND X as a compare; LAS loads memory AND SP into A, X and SP. -/
def Obligations.SbxAndLasResults : Prop :=
  ∀ (s : State) (b r : Byte) (w : Word),
    (r = BitVec.ofInt 8 (((s.a &&& s.x).toNat : Int) - b.toNat) →
      Completes (.sbxImm b) s fun t =>
        Regs t s.a r s.y s.sp ∧ t.flag .c = decide (b.toNat ≤ (s.a &&& s.x).toNat) ∧ FlagsNZ t r ∧
          FlagsExcept [.n, .z, .c] s t ∧ MemSame s t ∧ (Form.imm (.sbxImm b) 0xCB b s).Retired s t) ∧
    (∀ f ∈ [Form.at (.lasAby w) 0xBB (accAby w s) s],
      f.Reads s (f.operand &&& s.sp) (f.operand &&& s.sp) s.y (f.operand &&& s.sp) (f.operand &&& s.sp))

/-! ## Rules of the whole CPU -/

/-- Rules R27 and R28: no instruction writes a flag beyond the table of rule R27 and the status loads of PLP and RTI. -/
def Obligations.FlagsAreWrittenOnlyAsListed : Prop :=
  ∀ (i : Instr) (s t : State) (f : Flag), exec i s = .next t → i.opcode ∉ flagWriters f → t.flag f = s.flag f

/-- Rule R31 (the spec's decision D11): only STA, STX, STY and SAX report a store address; it is 0 after any other
instruction. -/
def Obligations.OnlyStoresReportAStoreAddress : Prop :=
  ∀ (i : Instr) (s t : State), exec i s = .next t →
    i.opcode ∉ ([0x85, 0x95, 0x8D, 0x9D, 0x99, 0x81, 0x91, 0x86, 0x96, 0x8E, 0x84, 0x94, 0x8C, 0x87, 0x97, 0x8F, 0x83] :
      List Byte) → t.storadd = 0

/-- Rule R301 (the spec's decision D10): a status is a sentinel exactly on RTS and RTI with SP = 0xFF, and 0 otherwise,
where the parameters' sentinels are not 0. -/
def Obligations.StatusIsASentinelOnlyOnEmptyReturns : Prop :=
  ∀ (i : Instr) (s t : State), s.params.sentinelRts ≠ 0 → s.params.sentinelRti ≠ 0 → exec i s = .next t →
    ((i = .rts ∧ s.sp = 0xFF ∧ t.status = s.params.sentinelRts) ∨
      (i = .rti ∧ s.sp = 0xFF ∧ t.status = s.params.sentinelRti) ∨
      (¬ (i = .rts ∧ s.sp = 0xFF) ∧ ¬ (i = .rti ∧ s.sp = 0xFF) ∧ t.status = 0))

/-- Rules R29 to R32 and R41: what a program can see after an instruction depends only on what it could see before: the
registers, memory and the parameters, never the device's state, the outputs or the host's data. -/
def Obligations.ProgramsCannotSeeTheDevice : Prop :=
  ∀ (i : Instr) (s s' : State), visible s = visible s' →
    (∃ t t', exec i s = .next t ∧ exec i s' = .next t' ∧ visible t = visible t') ∨
      ∃ r, exec i s = .refused r ∧ exec i s' = .refused r

/-- Rules R38 and R41: no instruction changes the device's state, what the host set, or the parameters. -/
def Obligations.InstructionsLeaveTheDeviceAlone : Prop :=
  ∀ (i : Instr) (s t : State), exec i s = .next t → Elsewhere s t

/-! ## The sound device -/

/-- Rules R67, R330, R335, R338 (the read-back bytes: the spec's decision D18): `emulate` of an active chip advances that
chip by its registers, leaves the CPU and the other chips alone, and changes no byte of memory but the four read-back
bytes. -/
def Obligations.EmulateFrame : Prop :=
  ∀ (s : State) (i : ChipIndex) (base : Word), s.devReady = true → chipActive s.chipCount i = true →
    ∃ t, emulate i base s = .next t ∧ t.chip i = chipStep Config.dev (readWindow s base) (s.chip i) ∧
      (∀ j, j ≠ i → t.chip j = s.chip j) ∧
      (∀ c, c ≠ base + 0x19 → c ≠ base + 0x1A → c ≠ base + 0x1B → c ≠ base + 0x1C → t.read c = s.read c) ∧
      Regs t s.a s.x s.y s.sp ∧ t.pc = s.pc ∧ t.p = s.p ∧ t.ir = s.ir ∧ t.addr = s.addr ∧ t.storadd = s.storadd ∧
      t.cycles = s.cycles ∧ t.status = s.status ∧ t.params = s.params ∧ t.chipCount = s.chipCount ∧
      t.calls = s.calls

/-- Rule R348: the envelope counter does not fall during attack and does not rise during decay and release; hold-zero
stays until the next rising edge of the gate; `chip_init` leaves every channel in hold-zero at 0. The numbers of the
device and the rate comparison (log entry 15) are arbitrary. -/
def Obligations.EnvelopeIsMonotone : Prop :=
  ∀ (cfg : DevConfig) (r : VoiceRegs) (ch : Channel),
    ((gateEdge r ch).attack = true → ch.envcnt.toNat ≤ (envelopeStep cfg r ch).envcnt.toNat) ∧
    ((gateEdge r ch).attack = false → (envelopeStep cfg r ch).envcnt.toNat ≤ ch.envcnt.toNat) ∧
    (ch.holdzero = true → ch.envcnt = 0 → ¬ (r.ctrl.getLsbD 0 = true ∧ ch.gate = false) →
      (envelopeStep cfg r ch).envcnt = 0 ∧ (envelopeStep cfg r ch).holdzero = true) ∧
    ∀ (s : State) (i : ChipIndex), ∀ c ∈ [((chipInit s).chip i).voice0, ((chipInit s).chip i).voice1,
      ((chipInit s).chip i).voice2], c.holdzero = true ∧ c.envcnt = 0

/-- Rules R341, R342 and R344: what a gate edge does to the phase flags, and that no comparison takes place on the
sample of a rising edge on which the release nibble went up: the envelope counter and the sub-counter keep their values,
and the rate counter, where it does not reach its wrap, only advances (nothing is said of the wrap, rule R349). That the
suppressed comparison leaves exactly this, whatever the realisation, is the model's inference (DEDUCED, log entry 15),
and the advance is rule R342's. The numbers of the device and the rate comparison are arbitrary. -/
def Obligations.GateEdgesAndDelayBug : Prop :=
  ∀ (cfg : DevConfig) (r : VoiceRegs) (ch : Channel),
    (r.ctrl.getLsbD 0 = true → ch.gate = false →
      (gateEdge r ch).gate = true ∧ (gateEdge r ch).attack = true ∧ (gateEdge r ch).decaysustain = true ∧
        (gateEdge r ch).holdzero = false) ∧
    (r.ctrl.getLsbD 0 = false → ch.gate = true →
      (gateEdge r ch).gate = false ∧ (gateEdge r ch).attack = false ∧ (gateEdge r ch).decaysustain = false ∧
        (gateEdge r ch).holdzero = ch.holdzero) ∧
    (r.ctrl.getLsbD 0 = ch.gate → gateEdge r ch = ch) ∧
    (r.ctrl.getLsbD 0 = true → ch.gate = false → ch.prevSR.toNat % 16 < r.sr.toNat % 16 →
      (envelopeStep cfg r ch).envcnt = ch.envcnt ∧ (envelopeStep cfg r ch).expcnt = ch.expcnt ∧
        (ch.ratecnt + cfg.clkRatio < 0x8000 → (envelopeStep cfg r ch).ratecnt = ch.ratecnt + cfg.clkRatio)) ∧
    (envelopeStep cfg r ch).prevSR = r.sr

/-- Rules R350 and R351: the phase accumulator advances by the frequency times the clock ratio modulo 2^24 where no
synchronisation applies, is 0 under the test bit, and is remembered as the previous value. -/
def Obligations.PhaseAccumulatorAdvance : Prop :=
  ∀ (cfg : DevConfig) (model : ChipModel) (r : VoiceRegs) (msb rise : Bool) (ch : Channel) (v : VoiceStep),
    v = waveStep cfg model r msb rise ch →
    v.ch.prevphase = v.ch.phase ∧
    (r.ctrl.getLsbD 3 = true → v.ch.phase = 0) ∧
    (r.ctrl.getLsbD 3 = false → r.ctrl.getLsbD 1 = true → rise = true → v.ch.phase = 0) ∧
    (r.ctrl.getLsbD 3 = false → ¬ (r.ctrl.getLsbD 1 = true ∧ rise = true) →
      0 ≤ v.ch.phase ∧ v.ch.phase < 0x1000000 ∧
        ∃ k : Int, v.ch.phase = ch.prevphase + (r.freq.toNat : Rat) * cfg.clkRatio - (k : Rat) * 0x1000000)

/-- Rule R360: the waveform output of a sample is remembered, and with no waveform selected it is the one of the sample
before. That the output is taken from the noise register as this sample's clocking leaves it is the model's (DEDUCED, log
entry 16). The numbers of the device are arbitrary. -/
def Obligations.NoWaveformHolds : Prop :=
  ∀ (cfg : DevConfig) (model : ChipModel) (r : VoiceRegs) (msb rise : Bool) (ch : Channel) (v : VoiceStep),
    v = waveStep cfg model r msb rise ch →
    v.ch.prevwfout = (waveOut cfg model r msb (phaseBits v.ch.phase) (phaseStep cfg r) v.ch.lfsr ch.prevwfout
      ch.prevwavdata).wfout ∧
    (hiNibble r.ctrl = 0 → v.ch.prevwfout = ch.prevwfout ∧ v.ch.prevwavdata = ch.prevwavdata)

/-- Rule R354: the triangle alone is the folded phase, complemented first under ring modulation by a set MSB. `n` is the
integer part of the phase after the exclusive or. -/
def Obligations.TriangleIsTheFoldedPhase : Prop :=
  ∀ (cfg : DevConfig) (model : ChipModel) (r : VoiceRegs) (msb : Bool) (phase : BitVec 24) (add : Rat) (lfsr : BitVec 23)
    (prev prevData : BitVec 16) (n : Nat),
    hiNibble r.ctrl = 0b0001 →
    n = (if r.ctrl.getLsbD 2 = true ∧ msb = true then (phase.toNat + 0x800000) % 0x1000000 else phase.toNat) →
    (waveOut cfg model r msb phase add lfsr prev prevData).wfout.toNat =
      (if n < 0x800000 then n else 0xFFFFFF - n) / 0x80

/-- A chip whose gates were never opened is silent (rules R338, R347, R370, R371, R380, with the reset state of rule
R44): whatever its other registers and the device's numbers are, every sample is 0. -/
def Obligations.ClosedGatesAreSilent : Prop :=
  (∀ (cfg : DevConfig) (r : ChipRegs) (c : Chip), Silent c →
    (∀ v, (r.voice v).ctrl.getLsbD 0 = false) → Silent (chipStep cfg r c) ∧ (chipStep cfg r c).out = 0) ∧
    ∀ (s : State) (i : ChipIndex), Silent ((chipInit s).chip i)
end

