-- ==== Sys2Proof/Laws/State.lean ====
section
/-! SUPPORT. One lemma per field of the state for each named update (Machine/Ops.lean): what the field is after it. -/

namespace Sys2Proof.Machine

/-! `setA` -/

@[simp] theorem State.setA_a (s : State) (v : Byte) : (s.setA v).a = v := rfl
@[simp] theorem State.setA_x (s : State) (v : Byte) : (s.setA v).x = s.x := rfl
@[simp] theorem State.setA_y (s : State) (v : Byte) : (s.setA v).y = s.y := rfl
@[simp] theorem State.setA_sp (s : State) (v : Byte) : (s.setA v).sp = s.sp := rfl
@[simp] theorem State.setA_pc (s : State) (v : Byte) : (s.setA v).pc = s.pc := rfl
@[simp] theorem State.setA_p (s : State) (v : Byte) : (s.setA v).p = s.p := rfl
@[simp] theorem State.setA_ir (s : State) (v : Byte) : (s.setA v).ir = s.ir := rfl
@[simp] theorem State.setA_addr (s : State) (v : Byte) : (s.setA v).addr = s.addr := rfl
@[simp] theorem State.setA_storadd (s : State) (v : Byte) : (s.setA v).storadd = s.storadd := rfl
@[simp] theorem State.setA_cycles (s : State) (v : Byte) : (s.setA v).cycles = s.cycles := rfl
@[simp] theorem State.setA_status (s : State) (v : Byte) : (s.setA v).status = s.status := rfl
@[simp] theorem State.setA_mem (s : State) (v : Byte) : (s.setA v).mem = s.mem := rfl
@[simp] theorem State.setA_chip0 (s : State) (v : Byte) : (s.setA v).chip0 = s.chip0 := rfl
@[simp] theorem State.setA_chip1 (s : State) (v : Byte) : (s.setA v).chip1 = s.chip1 := rfl
@[simp] theorem State.setA_chip2 (s : State) (v : Byte) : (s.setA v).chip2 = s.chip2 := rfl
@[simp] theorem State.setA_chipCount (s : State) (v : Byte) : (s.setA v).chipCount = s.chipCount := rfl
@[simp] theorem State.setA_params (s : State) (v : Byte) : (s.setA v).params = s.params := rfl
@[simp] theorem State.setA_draws (s : State) (v : Byte) : (s.setA v).draws = s.draws := rfl
@[simp] theorem State.setA_calls (s : State) (v : Byte) : (s.setA v).calls = s.calls := rfl
@[simp] theorem State.setA_cpuReady (s : State) (v : Byte) : (s.setA v).cpuReady = s.cpuReady := rfl
@[simp] theorem State.setA_devReady (s : State) (v : Byte) : (s.setA v).devReady = s.devReady := rfl
@[simp] theorem State.setA_read (s : State) (v : Byte) (c : Word) : (s.setA v).read c = s.read c := rfl
@[simp] theorem State.setA_flag (s : State) (v : Byte) (f : Flag) : (s.setA v).flag f = s.flag f := rfl

/-! `setX` -/

@[simp] theorem State.setX_a (s : State) (v : Byte) : (s.setX v).a = s.a := rfl
@[simp] theorem State.setX_x (s : State) (v : Byte) : (s.setX v).x = v := rfl
@[simp] theorem State.setX_y (s : State) (v : Byte) : (s.setX v).y = s.y := rfl
@[simp] theorem State.setX_sp (s : State) (v : Byte) : (s.setX v).sp = s.sp := rfl
@[simp] theorem State.setX_pc (s : State) (v : Byte) : (s.setX v).pc = s.pc := rfl
@[simp] theorem State.setX_p (s : State) (v : Byte) : (s.setX v).p = s.p := rfl
@[simp] theorem State.setX_ir (s : State) (v : Byte) : (s.setX v).ir = s.ir := rfl
@[simp] theorem State.setX_addr (s : State) (v : Byte) : (s.setX v).addr = s.addr := rfl
@[simp] theorem State.setX_storadd (s : State) (v : Byte) : (s.setX v).storadd = s.storadd := rfl
@[simp] theorem State.setX_cycles (s : State) (v : Byte) : (s.setX v).cycles = s.cycles := rfl
@[simp] theorem State.setX_status (s : State) (v : Byte) : (s.setX v).status = s.status := rfl
@[simp] theorem State.setX_mem (s : State) (v : Byte) : (s.setX v).mem = s.mem := rfl
@[simp] theorem State.setX_chip0 (s : State) (v : Byte) : (s.setX v).chip0 = s.chip0 := rfl
@[simp] theorem State.setX_chip1 (s : State) (v : Byte) : (s.setX v).chip1 = s.chip1 := rfl
@[simp] theorem State.setX_chip2 (s : State) (v : Byte) : (s.setX v).chip2 = s.chip2 := rfl
@[simp] theorem State.setX_chipCount (s : State) (v : Byte) : (s.setX v).chipCount = s.chipCount := rfl
@[simp] theorem State.setX_params (s : State) (v : Byte) : (s.setX v).params = s.params := rfl
@[simp] theorem State.setX_draws (s : State) (v : Byte) : (s.setX v).draws = s.draws := rfl
@[simp] theorem State.setX_calls (s : State) (v : Byte) : (s.setX v).calls = s.calls := rfl
@[simp] theorem State.setX_cpuReady (s : State) (v : Byte) : (s.setX v).cpuReady = s.cpuReady := rfl
@[simp] theorem State.setX_devReady (s : State) (v : Byte) : (s.setX v).devReady = s.devReady := rfl
@[simp] theorem State.setX_read (s : State) (v : Byte) (c : Word) : (s.setX v).read c = s.read c := rfl
@[simp] theorem State.setX_flag (s : State) (v : Byte) (f : Flag) : (s.setX v).flag f = s.flag f := rfl

/-! `setY` -/

@[simp] theorem State.setY_a (s : State) (v : Byte) : (s.setY v).a = s.a := rfl
@[simp] theorem State.setY_x (s : State) (v : Byte) : (s.setY v).x = s.x := rfl
@[simp] theorem State.setY_y (s : State) (v : Byte) : (s.setY v).y = v := rfl
@[simp] theorem State.setY_sp (s : State) (v : Byte) : (s.setY v).sp = s.sp := rfl
@[simp] theorem State.setY_pc (s : State) (v : Byte) : (s.setY v).pc = s.pc := rfl
@[simp] theorem State.setY_p (s : State) (v : Byte) : (s.setY v).p = s.p := rfl
@[simp] theorem State.setY_ir (s : State) (v : Byte) : (s.setY v).ir = s.ir := rfl
@[simp] theorem State.setY_addr (s : State) (v : Byte) : (s.setY v).addr = s.addr := rfl
@[simp] theorem State.setY_storadd (s : State) (v : Byte) : (s.setY v).storadd = s.storadd := rfl
@[simp] theorem State.setY_cycles (s : State) (v : Byte) : (s.setY v).cycles = s.cycles := rfl
@[simp] theorem State.setY_status (s : State) (v : Byte) : (s.setY v).status = s.status := rfl
@[simp] theorem State.setY_mem (s : State) (v : Byte) : (s.setY v).mem = s.mem := rfl
@[simp] theorem State.setY_chip0 (s : State) (v : Byte) : (s.setY v).chip0 = s.chip0 := rfl
@[simp] theorem State.setY_chip1 (s : State) (v : Byte) : (s.setY v).chip1 = s.chip1 := rfl
@[simp] theorem State.setY_chip2 (s : State) (v : Byte) : (s.setY v).chip2 = s.chip2 := rfl
@[simp] theorem State.setY_chipCount (s : State) (v : Byte) : (s.setY v).chipCount = s.chipCount := rfl
@[simp] theorem State.setY_params (s : State) (v : Byte) : (s.setY v).params = s.params := rfl
@[simp] theorem State.setY_draws (s : State) (v : Byte) : (s.setY v).draws = s.draws := rfl
@[simp] theorem State.setY_calls (s : State) (v : Byte) : (s.setY v).calls = s.calls := rfl
@[simp] theorem State.setY_cpuReady (s : State) (v : Byte) : (s.setY v).cpuReady = s.cpuReady := rfl
@[simp] theorem State.setY_devReady (s : State) (v : Byte) : (s.setY v).devReady = s.devReady := rfl
@[simp] theorem State.setY_read (s : State) (v : Byte) (c : Word) : (s.setY v).read c = s.read c := rfl
@[simp] theorem State.setY_flag (s : State) (v : Byte) (f : Flag) : (s.setY v).flag f = s.flag f := rfl

/-! `setSp` -/

@[simp] theorem State.setSp_a (s : State) (v : Byte) : (s.setSp v).a = s.a := rfl
@[simp] theorem State.setSp_x (s : State) (v : Byte) : (s.setSp v).x = s.x := rfl
@[simp] theorem State.setSp_y (s : State) (v : Byte) : (s.setSp v).y = s.y := rfl
@[simp] theorem State.setSp_sp (s : State) (v : Byte) : (s.setSp v).sp = v := rfl
@[simp] theorem State.setSp_pc (s : State) (v : Byte) : (s.setSp v).pc = s.pc := rfl
@[simp] theorem State.setSp_p (s : State) (v : Byte) : (s.setSp v).p = s.p := rfl
@[simp] theorem State.setSp_ir (s : State) (v : Byte) : (s.setSp v).ir = s.ir := rfl
@[simp] theorem State.setSp_addr (s : State) (v : Byte) : (s.setSp v).addr = s.addr := rfl
@[simp] theorem State.setSp_storadd (s : State) (v : Byte) : (s.setSp v).storadd = s.storadd := rfl
@[simp] theorem State.setSp_cycles (s : State) (v : Byte) : (s.setSp v).cycles = s.cycles := rfl
@[simp] theorem State.setSp_status (s : State) (v : Byte) : (s.setSp v).status = s.status := rfl
@[simp] theorem State.setSp_mem (s : State) (v : Byte) : (s.setSp v).mem = s.mem := rfl
@[simp] theorem State.setSp_chip0 (s : State) (v : Byte) : (s.setSp v).chip0 = s.chip0 := rfl
@[simp] theorem State.setSp_chip1 (s : State) (v : Byte) : (s.setSp v).chip1 = s.chip1 := rfl
@[simp] theorem State.setSp_chip2 (s : State) (v : Byte) : (s.setSp v).chip2 = s.chip2 := rfl
@[simp] theorem State.setSp_chipCount (s : State) (v : Byte) : (s.setSp v).chipCount = s.chipCount := rfl
@[simp] theorem State.setSp_params (s : State) (v : Byte) : (s.setSp v).params = s.params := rfl
@[simp] theorem State.setSp_draws (s : State) (v : Byte) : (s.setSp v).draws = s.draws := rfl
@[simp] theorem State.setSp_calls (s : State) (v : Byte) : (s.setSp v).calls = s.calls := rfl
@[simp] theorem State.setSp_cpuReady (s : State) (v : Byte) : (s.setSp v).cpuReady = s.cpuReady := rfl
@[simp] theorem State.setSp_devReady (s : State) (v : Byte) : (s.setSp v).devReady = s.devReady := rfl
@[simp] theorem State.setSp_read (s : State) (v : Byte) (c : Word) : (s.setSp v).read c = s.read c := rfl
@[simp] theorem State.setSp_flag (s : State) (v : Byte) (f : Flag) : (s.setSp v).flag f = s.flag f := rfl

/-! `setPc` -/

@[simp] theorem State.setPc_a (s : State) (v : Word) : (s.setPc v).a = s.a := rfl
@[simp] theorem State.setPc_x (s : State) (v : Word) : (s.setPc v).x = s.x := rfl
@[simp] theorem State.setPc_y (s : State) (v : Word) : (s.setPc v).y = s.y := rfl
@[simp] theorem State.setPc_sp (s : State) (v : Word) : (s.setPc v).sp = s.sp := rfl
@[simp] theorem State.setPc_pc (s : State) (v : Word) : (s.setPc v).pc = v := rfl
@[simp] theorem State.setPc_p (s : State) (v : Word) : (s.setPc v).p = s.p := rfl
@[simp] theorem State.setPc_ir (s : State) (v : Word) : (s.setPc v).ir = s.ir := rfl
@[simp] theorem State.setPc_addr (s : State) (v : Word) : (s.setPc v).addr = s.addr := rfl
@[simp] theorem State.setPc_storadd (s : State) (v : Word) : (s.setPc v).storadd = s.storadd := rfl
@[simp] theorem State.setPc_cycles (s : State) (v : Word) : (s.setPc v).cycles = s.cycles := rfl
@[simp] theorem State.setPc_status (s : State) (v : Word) : (s.setPc v).status = s.status := rfl
@[simp] theorem State.setPc_mem (s : State) (v : Word) : (s.setPc v).mem = s.mem := rfl
@[simp] theorem State.setPc_chip0 (s : State) (v : Word) : (s.setPc v).chip0 = s.chip0 := rfl
@[simp] theorem State.setPc_chip1 (s : State) (v : Word) : (s.setPc v).chip1 = s.chip1 := rfl
@[simp] theorem State.setPc_chip2 (s : State) (v : Word) : (s.setPc v).chip2 = s.chip2 := rfl
@[simp] theorem State.setPc_chipCount (s : State) (v : Word) : (s.setPc v).chipCount = s.chipCount := rfl
@[simp] theorem State.setPc_params (s : State) (v : Word) : (s.setPc v).params = s.params := rfl
@[simp] theorem State.setPc_draws (s : State) (v : Word) : (s.setPc v).draws = s.draws := rfl
@[simp] theorem State.setPc_calls (s : State) (v : Word) : (s.setPc v).calls = s.calls := rfl
@[simp] theorem State.setPc_cpuReady (s : State) (v : Word) : (s.setPc v).cpuReady = s.cpuReady := rfl
@[simp] theorem State.setPc_devReady (s : State) (v : Word) : (s.setPc v).devReady = s.devReady := rfl
@[simp] theorem State.setPc_read (s : State) (v : Word) (c : Word) : (s.setPc v).read c = s.read c := rfl
@[simp] theorem State.setPc_flag (s : State) (v : Word) (f : Flag) : (s.setPc v).flag f = s.flag f := rfl

/-! `setP` -/

@[simp] theorem State.setP_a (s : State) (v : Byte) : (s.setP v).a = s.a := rfl
@[simp] theorem State.setP_x (s : State) (v : Byte) : (s.setP v).x = s.x := rfl
@[simp] theorem State.setP_y (s : State) (v : Byte) : (s.setP v).y = s.y := rfl
@[simp] theorem State.setP_sp (s : State) (v : Byte) : (s.setP v).sp = s.sp := rfl
@[simp] theorem State.setP_pc (s : State) (v : Byte) : (s.setP v).pc = s.pc := rfl
@[simp] theorem State.setP_p (s : State) (v : Byte) : (s.setP v).p = v := rfl
@[simp] theorem State.setP_ir (s : State) (v : Byte) : (s.setP v).ir = s.ir := rfl
@[simp] theorem State.setP_addr (s : State) (v : Byte) : (s.setP v).addr = s.addr := rfl
@[simp] theorem State.setP_storadd (s : State) (v : Byte) : (s.setP v).storadd = s.storadd := rfl
@[simp] theorem State.setP_cycles (s : State) (v : Byte) : (s.setP v).cycles = s.cycles := rfl
@[simp] theorem State.setP_status (s : State) (v : Byte) : (s.setP v).status = s.status := rfl
@[simp] theorem State.setP_mem (s : State) (v : Byte) : (s.setP v).mem = s.mem := rfl
@[simp] theorem State.setP_chip0 (s : State) (v : Byte) : (s.setP v).chip0 = s.chip0 := rfl
@[simp] theorem State.setP_chip1 (s : State) (v : Byte) : (s.setP v).chip1 = s.chip1 := rfl
@[simp] theorem State.setP_chip2 (s : State) (v : Byte) : (s.setP v).chip2 = s.chip2 := rfl
@[simp] theorem State.setP_chipCount (s : State) (v : Byte) : (s.setP v).chipCount = s.chipCount := rfl
@[simp] theorem State.setP_params (s : State) (v : Byte) : (s.setP v).params = s.params := rfl
@[simp] theorem State.setP_draws (s : State) (v : Byte) : (s.setP v).draws = s.draws := rfl
@[simp] theorem State.setP_calls (s : State) (v : Byte) : (s.setP v).calls = s.calls := rfl
@[simp] theorem State.setP_cpuReady (s : State) (v : Byte) : (s.setP v).cpuReady = s.cpuReady := rfl
@[simp] theorem State.setP_devReady (s : State) (v : Byte) : (s.setP v).devReady = s.devReady := rfl
@[simp] theorem State.setP_read (s : State) (v : Byte) (c : Word) : (s.setP v).read c = s.read c := rfl

/-! `write` -/

@[simp] theorem State.write_a (s : State) (e : Word) (v : Byte) : (s.write e v).a = s.a := rfl
@[simp] theorem State.write_x (s : State) (e : Word) (v : Byte) : (s.write e v).x = s.x := rfl
@[simp] theorem State.write_y (s : State) (e : Word) (v : Byte) : (s.write e v).y = s.y := rfl
@[simp] theorem State.write_sp (s : State) (e : Word) (v : Byte) : (s.write e v).sp = s.sp := rfl
@[simp] theorem State.write_pc (s : State) (e : Word) (v : Byte) : (s.write e v).pc = s.pc := rfl
@[simp] theorem State.write_p (s : State) (e : Word) (v : Byte) : (s.write e v).p = s.p := rfl
@[simp] theorem State.write_ir (s : State) (e : Word) (v : Byte) : (s.write e v).ir = s.ir := rfl
@[simp] theorem State.write_addr (s : State) (e : Word) (v : Byte) : (s.write e v).addr = s.addr := rfl
@[simp] theorem State.write_storadd (s : State) (e : Word) (v : Byte) : (s.write e v).storadd = s.storadd := rfl
@[simp] theorem State.write_cycles (s : State) (e : Word) (v : Byte) : (s.write e v).cycles = s.cycles := rfl
@[simp] theorem State.write_status (s : State) (e : Word) (v : Byte) : (s.write e v).status = s.status := rfl
@[simp] theorem State.write_mem (s : State) (e : Word) (v : Byte) : (s.write e v).mem = memInsert s.mem e.toNat v := rfl
@[simp] theorem State.write_chip0 (s : State) (e : Word) (v : Byte) : (s.write e v).chip0 = s.chip0 := rfl
@[simp] theorem State.write_chip1 (s : State) (e : Word) (v : Byte) : (s.write e v).chip1 = s.chip1 := rfl
@[simp] theorem State.write_chip2 (s : State) (e : Word) (v : Byte) : (s.write e v).chip2 = s.chip2 := rfl
@[simp] theorem State.write_chipCount (s : State) (e : Word) (v : Byte) : (s.write e v).chipCount = s.chipCount := rfl
@[simp] theorem State.write_params (s : State) (e : Word) (v : Byte) : (s.write e v).params = s.params := rfl
@[simp] theorem State.write_draws (s : State) (e : Word) (v : Byte) : (s.write e v).draws = s.draws := rfl
@[simp] theorem State.write_calls (s : State) (e : Word) (v : Byte) : (s.write e v).calls = s.calls := rfl
@[simp] theorem State.write_cpuReady (s : State) (e : Word) (v : Byte) : (s.write e v).cpuReady = s.cpuReady := rfl
@[simp] theorem State.write_devReady (s : State) (e : Word) (v : Byte) : (s.write e v).devReady = s.devReady := rfl
@[simp] theorem State.write_flag (s : State) (e : Word) (v : Byte) (f : Flag) : (s.write e v).flag f = s.flag f := rfl

/-! `setFlag` -/

@[simp] theorem State.setFlag_a (s : State) (f : Flag) (v : Bool) : (s.setFlag f v).a = s.a := rfl
@[simp] theorem State.setFlag_x (s : State) (f : Flag) (v : Bool) : (s.setFlag f v).x = s.x := rfl
@[simp] theorem State.setFlag_y (s : State) (f : Flag) (v : Bool) : (s.setFlag f v).y = s.y := rfl
@[simp] theorem State.setFlag_sp (s : State) (f : Flag) (v : Bool) : (s.setFlag f v).sp = s.sp := rfl
@[simp] theorem State.setFlag_pc (s : State) (f : Flag) (v : Bool) : (s.setFlag f v).pc = s.pc := rfl
@[simp] theorem State.setFlag_p (s : State) (f : Flag) (v : Bool) : (s.setFlag f v).p = putFlag s.p f v := rfl
@[simp] theorem State.setFlag_ir (s : State) (f : Flag) (v : Bool) : (s.setFlag f v).ir = s.ir := rfl
@[simp] theorem State.setFlag_addr (s : State) (f : Flag) (v : Bool) : (s.setFlag f v).addr = s.addr := rfl
@[simp] theorem State.setFlag_storadd (s : State) (f : Flag) (v : Bool) : (s.setFlag f v).storadd = s.storadd := rfl
@[simp] theorem State.setFlag_cycles (s : State) (f : Flag) (v : Bool) : (s.setFlag f v).cycles = s.cycles := rfl
@[simp] theorem State.setFlag_status (s : State) (f : Flag) (v : Bool) : (s.setFlag f v).status = s.status := rfl
@[simp] theorem State.setFlag_mem (s : State) (f : Flag) (v : Bool) : (s.setFlag f v).mem = s.mem := rfl
@[simp] theorem State.setFlag_chip0 (s : State) (f : Flag) (v : Bool) : (s.setFlag f v).chip0 = s.chip0 := rfl
@[simp] theorem State.setFlag_chip1 (s : State) (f : Flag) (v : Bool) : (s.setFlag f v).chip1 = s.chip1 := rfl
@[simp] theorem State.setFlag_chip2 (s : State) (f : Flag) (v : Bool) : (s.setFlag f v).chip2 = s.chip2 := rfl
@[simp] theorem State.setFlag_chipCount (s : State) (f : Flag) (v : Bool) : (s.setFlag f v).chipCount = s.chipCount := rfl
@[simp] theorem State.setFlag_params (s : State) (f : Flag) (v : Bool) : (s.setFlag f v).params = s.params := rfl
@[simp] theorem State.setFlag_draws (s : State) (f : Flag) (v : Bool) : (s.setFlag f v).draws = s.draws := rfl
@[simp] theorem State.setFlag_calls (s : State) (f : Flag) (v : Bool) : (s.setFlag f v).calls = s.calls := rfl
@[simp] theorem State.setFlag_cpuReady (s : State) (f : Flag) (v : Bool) : (s.setFlag f v).cpuReady = s.cpuReady := rfl
@[simp] theorem State.setFlag_devReady (s : State) (f : Flag) (v : Bool) : (s.setFlag f v).devReady = s.devReady := rfl
@[simp] theorem State.setFlag_read (s : State) (f : Flag) (v : Bool) (c : Word) : (s.setFlag f v).read c = s.read c := rfl

/-! `setNZ` -/

@[simp] theorem State.setNZ_a (s : State) (v : Byte) : (s.setNZ v).a = s.a := rfl
@[simp] theorem State.setNZ_x (s : State) (v : Byte) : (s.setNZ v).x = s.x := rfl
@[simp] theorem State.setNZ_y (s : State) (v : Byte) : (s.setNZ v).y = s.y := rfl
@[simp] theorem State.setNZ_sp (s : State) (v : Byte) : (s.setNZ v).sp = s.sp := rfl
@[simp] theorem State.setNZ_pc (s : State) (v : Byte) : (s.setNZ v).pc = s.pc := rfl
@[simp] theorem State.setNZ_p (s : State) (v : Byte) : (s.setNZ v).p = putNZ s.p v := rfl
@[simp] theorem State.setNZ_ir (s : State) (v : Byte) : (s.setNZ v).ir = s.ir := rfl
@[simp] theorem State.setNZ_addr (s : State) (v : Byte) : (s.setNZ v).addr = s.addr := rfl
@[simp] theorem State.setNZ_storadd (s : State) (v : Byte) : (s.setNZ v).storadd = s.storadd := rfl
@[simp] theorem State.setNZ_cycles (s : State) (v : Byte) : (s.setNZ v).cycles = s.cycles := rfl
@[simp] theorem State.setNZ_status (s : State) (v : Byte) : (s.setNZ v).status = s.status := rfl
@[simp] theorem State.setNZ_mem (s : State) (v : Byte) : (s.setNZ v).mem = s.mem := rfl
@[simp] theorem State.setNZ_chip0 (s : State) (v : Byte) : (s.setNZ v).chip0 = s.chip0 := rfl
@[simp] theorem State.setNZ_chip1 (s : State) (v : Byte) : (s.setNZ v).chip1 = s.chip1 := rfl
@[simp] theorem State.setNZ_chip2 (s : State) (v : Byte) : (s.setNZ v).chip2 = s.chip2 := rfl
@[simp] theorem State.setNZ_chipCount (s : State) (v : Byte) : (s.setNZ v).chipCount = s.chipCount := rfl
@[simp] theorem State.setNZ_params (s : State) (v : Byte) : (s.setNZ v).params = s.params := rfl
@[simp] theorem State.setNZ_draws (s : State) (v : Byte) : (s.setNZ v).draws = s.draws := rfl
@[simp] theorem State.setNZ_calls (s : State) (v : Byte) : (s.setNZ v).calls = s.calls := rfl
@[simp] theorem State.setNZ_cpuReady (s : State) (v : Byte) : (s.setNZ v).cpuReady = s.cpuReady := rfl
@[simp] theorem State.setNZ_devReady (s : State) (v : Byte) : (s.setNZ v).devReady = s.devReady := rfl
@[simp] theorem State.setNZ_read (s : State) (v : Byte) (c : Word) : (s.setNZ v).read c = s.read c := rfl

/-! `setSum` -/

@[simp] theorem State.setSum_a (s : State) (u : Sum) : (s.setSum u).a = u.r := rfl
@[simp] theorem State.setSum_x (s : State) (u : Sum) : (s.setSum u).x = s.x := rfl
@[simp] theorem State.setSum_y (s : State) (u : Sum) : (s.setSum u).y = s.y := rfl
@[simp] theorem State.setSum_sp (s : State) (u : Sum) : (s.setSum u).sp = s.sp := rfl
@[simp] theorem State.setSum_pc (s : State) (u : Sum) : (s.setSum u).pc = s.pc := rfl
@[simp] theorem State.setSum_p (s : State) (u : Sum) : (s.setSum u).p = putSum s.p u := rfl
@[simp] theorem State.setSum_ir (s : State) (u : Sum) : (s.setSum u).ir = s.ir := rfl
@[simp] theorem State.setSum_addr (s : State) (u : Sum) : (s.setSum u).addr = s.addr := rfl
@[simp] theorem State.setSum_storadd (s : State) (u : Sum) : (s.setSum u).storadd = s.storadd := rfl
@[simp] theorem State.setSum_cycles (s : State) (u : Sum) : (s.setSum u).cycles = s.cycles := rfl
@[simp] theorem State.setSum_status (s : State) (u : Sum) : (s.setSum u).status = s.status := rfl
@[simp] theorem State.setSum_mem (s : State) (u : Sum) : (s.setSum u).mem = s.mem := rfl
@[simp] theorem State.setSum_chip0 (s : State) (u : Sum) : (s.setSum u).chip0 = s.chip0 := rfl
@[simp] theorem State.setSum_chip1 (s : State) (u : Sum) : (s.setSum u).chip1 = s.chip1 := rfl
@[simp] theorem State.setSum_chip2 (s : State) (u : Sum) : (s.setSum u).chip2 = s.chip2 := rfl
@[simp] theorem State.setSum_chipCount (s : State) (u : Sum) : (s.setSum u).chipCount = s.chipCount := rfl
@[simp] theorem State.setSum_params (s : State) (u : Sum) : (s.setSum u).params = s.params := rfl
@[simp] theorem State.setSum_draws (s : State) (u : Sum) : (s.setSum u).draws = s.draws := rfl
@[simp] theorem State.setSum_calls (s : State) (u : Sum) : (s.setSum u).calls = s.calls := rfl
@[simp] theorem State.setSum_cpuReady (s : State) (u : Sum) : (s.setSum u).cpuReady = s.cpuReady := rfl
@[simp] theorem State.setSum_devReady (s : State) (u : Sum) : (s.setSum u).devReady = s.devReady := rfl
@[simp] theorem State.setSum_read (s : State) (u : Sum) (c : Word) : (s.setSum u).read c = s.read c := rfl

/-! `compare` -/

@[simp] theorem State.compare_a (s : State) (r m : Byte) : (s.compare r m).a = s.a := rfl
@[simp] theorem State.compare_x (s : State) (r m : Byte) : (s.compare r m).x = s.x := rfl
@[simp] theorem State.compare_y (s : State) (r m : Byte) : (s.compare r m).y = s.y := rfl
@[simp] theorem State.compare_sp (s : State) (r m : Byte) : (s.compare r m).sp = s.sp := rfl
@[simp] theorem State.compare_pc (s : State) (r m : Byte) : (s.compare r m).pc = s.pc := rfl
@[simp] theorem State.compare_p (s : State) (r m : Byte) : (s.compare r m).p = putCompare s.p r m := rfl
@[simp] theorem State.compare_ir (s : State) (r m : Byte) : (s.compare r m).ir = s.ir := rfl
@[simp] theorem State.compare_addr (s : State) (r m : Byte) : (s.compare r m).addr = s.addr := rfl
@[simp] theorem State.compare_storadd (s : State) (r m : Byte) : (s.compare r m).storadd = s.storadd := rfl
@[simp] theorem State.compare_cycles (s : State) (r m : Byte) : (s.compare r m).cycles = s.cycles := rfl
@[simp] theorem State.compare_status (s : State) (r m : Byte) : (s.compare r m).status = s.status := rfl
@[simp] theorem State.compare_mem (s : State) (r m : Byte) : (s.compare r m).mem = s.mem := rfl
@[simp] theorem State.compare_chip0 (s : State) (r m : Byte) : (s.compare r m).chip0 = s.chip0 := rfl
@[simp] theorem State.compare_chip1 (s : State) (r m : Byte) : (s.compare r m).chip1 = s.chip1 := rfl
@[simp] theorem State.compare_chip2 (s : State) (r m : Byte) : (s.compare r m).chip2 = s.chip2 := rfl
@[simp] theorem State.compare_chipCount (s : State) (r m : Byte) : (s.compare r m).chipCount = s.chipCount := rfl
@[simp] theorem State.compare_params (s : State) (r m : Byte) : (s.compare r m).params = s.params := rfl
@[simp] theorem State.compare_draws (s : State) (r m : Byte) : (s.compare r m).draws = s.draws := rfl
@[simp] theorem State.compare_calls (s : State) (r m : Byte) : (s.compare r m).calls = s.calls := rfl
@[simp] theorem State.compare_cpuReady (s : State) (r m : Byte) : (s.compare r m).cpuReady = s.cpuReady := rfl
@[simp] theorem State.compare_devReady (s : State) (r m : Byte) : (s.compare r m).devReady = s.devReady := rfl
@[simp] theorem State.compare_read (s : State) (r m : Byte) (c : Word) : (s.compare r m).read c = s.read c := rfl

/-! `dropTop` -/

@[simp] theorem State.dropTop_a (s : State) : (s.dropTop).a = s.a := rfl
@[simp] theorem State.dropTop_x (s : State) : (s.dropTop).x = s.x := rfl
@[simp] theorem State.dropTop_y (s : State) : (s.dropTop).y = s.y := rfl
@[simp] theorem State.dropTop_sp (s : State) : (s.dropTop).sp = s.sp + 1 := rfl
@[simp] theorem State.dropTop_pc (s : State) : (s.dropTop).pc = s.pc := rfl
@[simp] theorem State.dropTop_p (s : State) : (s.dropTop).p = s.p := rfl
@[simp] theorem State.dropTop_ir (s : State) : (s.dropTop).ir = s.ir := rfl
@[simp] theorem State.dropTop_addr (s : State) : (s.dropTop).addr = s.addr := rfl
@[simp] theorem State.dropTop_storadd (s : State) : (s.dropTop).storadd = s.storadd := rfl
@[simp] theorem State.dropTop_cycles (s : State) : (s.dropTop).cycles = s.cycles := rfl
@[simp] theorem State.dropTop_status (s : State) : (s.dropTop).status = s.status := rfl
@[simp] theorem State.dropTop_mem (s : State) : (s.dropTop).mem = s.mem := rfl
@[simp] theorem State.dropTop_chip0 (s : State) : (s.dropTop).chip0 = s.chip0 := rfl
@[simp] theorem State.dropTop_chip1 (s : State) : (s.dropTop).chip1 = s.chip1 := rfl
@[simp] theorem State.dropTop_chip2 (s : State) : (s.dropTop).chip2 = s.chip2 := rfl
@[simp] theorem State.dropTop_chipCount (s : State) : (s.dropTop).chipCount = s.chipCount := rfl
@[simp] theorem State.dropTop_params (s : State) : (s.dropTop).params = s.params := rfl
@[simp] theorem State.dropTop_draws (s : State) : (s.dropTop).draws = s.draws := rfl
@[simp] theorem State.dropTop_calls (s : State) : (s.dropTop).calls = s.calls := rfl
@[simp] theorem State.dropTop_cpuReady (s : State) : (s.dropTop).cpuReady = s.cpuReady := rfl
@[simp] theorem State.dropTop_devReady (s : State) : (s.dropTop).devReady = s.devReady := rfl
@[simp] theorem State.dropTop_read (s : State) (c : Word) : (s.dropTop).read c = s.read c := rfl
@[simp] theorem State.dropTop_flag (s : State) (f : Flag) : (s.dropTop).flag f = s.flag f := rfl

/-! `push` -/

@[simp] theorem State.push_a (s : State) (v : Byte) : (s.push v).a = s.a := rfl
@[simp] theorem State.push_x (s : State) (v : Byte) : (s.push v).x = s.x := rfl
@[simp] theorem State.push_y (s : State) (v : Byte) : (s.push v).y = s.y := rfl
@[simp] theorem State.push_sp (s : State) (v : Byte) : (s.push v).sp = s.sp - 1 := rfl
@[simp] theorem State.push_pc (s : State) (v : Byte) : (s.push v).pc = s.pc := rfl
@[simp] theorem State.push_p (s : State) (v : Byte) : (s.push v).p = s.p := rfl
@[simp] theorem State.push_ir (s : State) (v : Byte) : (s.push v).ir = s.ir := rfl
@[simp] theorem State.push_addr (s : State) (v : Byte) : (s.push v).addr = s.addr := rfl
@[simp] theorem State.push_storadd (s : State) (v : Byte) : (s.push v).storadd = s.storadd := rfl
@[simp] theorem State.push_cycles (s : State) (v : Byte) : (s.push v).cycles = s.cycles := rfl
@[simp] theorem State.push_status (s : State) (v : Byte) : (s.push v).status = s.status := rfl
@[simp] theorem State.push_mem (s : State) (v : Byte) : (s.push v).mem = memInsert s.mem (stackSlot s.sp).toNat v := rfl
@[simp] theorem State.push_chip0 (s : State) (v : Byte) : (s.push v).chip0 = s.chip0 := rfl
@[simp] theorem State.push_chip1 (s : State) (v : Byte) : (s.push v).chip1 = s.chip1 := rfl
@[simp] theorem State.push_chip2 (s : State) (v : Byte) : (s.push v).chip2 = s.chip2 := rfl
@[simp] theorem State.push_chipCount (s : State) (v : Byte) : (s.push v).chipCount = s.chipCount := rfl
@[simp] theorem State.push_params (s : State) (v : Byte) : (s.push v).params = s.params := rfl
@[simp] theorem State.push_draws (s : State) (v : Byte) : (s.push v).draws = s.draws := rfl
@[simp] theorem State.push_calls (s : State) (v : Byte) : (s.push v).calls = s.calls := rfl
@[simp] theorem State.push_cpuReady (s : State) (v : Byte) : (s.push v).cpuReady = s.cpuReady := rfl
@[simp] theorem State.push_devReady (s : State) (v : Byte) : (s.push v).devReady = s.devReady := rfl
@[simp] theorem State.push_flag (s : State) (v : Byte) (f : Flag) : (s.push v).flag f = s.flag f := rfl

/-! `retire` -/

@[simp] theorem retire_a (s : State) (op : Byte) (len : Word) (taken crossed : Bool) : (retire op len taken crossed s).a = s.a := rfl
@[simp] theorem retire_x (s : State) (op : Byte) (len : Word) (taken crossed : Bool) : (retire op len taken crossed s).x = s.x := rfl
@[simp] theorem retire_y (s : State) (op : Byte) (len : Word) (taken crossed : Bool) : (retire op len taken crossed s).y = s.y := rfl
@[simp] theorem retire_sp (s : State) (op : Byte) (len : Word) (taken crossed : Bool) : (retire op len taken crossed s).sp = s.sp := rfl
@[simp] theorem retire_pc (s : State) (op : Byte) (len : Word) (taken crossed : Bool) : (retire op len taken crossed s).pc = s.pc + len := rfl
@[simp] theorem retire_p (s : State) (op : Byte) (len : Word) (taken crossed : Bool) : (retire op len taken crossed s).p = s.p := rfl
@[simp] theorem retire_ir (s : State) (op : Byte) (len : Word) (taken crossed : Bool) : (retire op len taken crossed s).ir = op := rfl
@[simp] theorem retire_addr (s : State) (op : Byte) (len : Word) (taken crossed : Bool) : (retire op len taken crossed s).addr = s.addr := rfl
@[simp] theorem retire_storadd (s : State) (op : Byte) (len : Word) (taken crossed : Bool) : (retire op len taken crossed s).storadd = 0 := rfl
@[simp] theorem retire_cycles (s : State) (op : Byte) (len : Word) (taken crossed : Bool) : (retire op len taken crossed s).cycles = cycleTable op taken crossed := rfl
@[simp] theorem retire_status (s : State) (op : Byte) (len : Word) (taken crossed : Bool) : (retire op len taken crossed s).status = 0 := rfl
@[simp] theorem retire_mem (s : State) (op : Byte) (len : Word) (taken crossed : Bool) : (retire op len taken crossed s).mem = s.mem := rfl
@[simp] theorem retire_chip0 (s : State) (op : Byte) (len : Word) (taken crossed : Bool) : (retire op len taken crossed s).chip0 = s.chip0 := rfl
@[simp] theorem retire_chip1 (s : State) (op : Byte) (len : Word) (taken crossed : Bool) : (retire op len taken crossed s).chip1 = s.chip1 := rfl
@[simp] theorem retire_chip2 (s : State) (op : Byte) (len : Word) (taken crossed : Bool) : (retire op len taken crossed s).chip2 = s.chip2 := rfl
@[simp] theorem retire_chipCount (s : State) (op : Byte) (len : Word) (taken crossed : Bool) : (retire op len taken crossed s).chipCount = s.chipCount := rfl
@[simp] theorem retire_params (s : State) (op : Byte) (len : Word) (taken crossed : Bool) : (retire op len taken crossed s).params = s.params := rfl
@[simp] theorem retire_draws (s : State) (op : Byte) (len : Word) (taken crossed : Bool) : (retire op len taken crossed s).draws = s.draws := rfl
@[simp] theorem retire_calls (s : State) (op : Byte) (len : Word) (taken crossed : Bool) : (retire op len taken crossed s).calls = s.calls := rfl
@[simp] theorem retire_cpuReady (s : State) (op : Byte) (len : Word) (taken crossed : Bool) : (retire op len taken crossed s).cpuReady = s.cpuReady := rfl
@[simp] theorem retire_devReady (s : State) (op : Byte) (len : Word) (taken crossed : Bool) : (retire op len taken crossed s).devReady = s.devReady := rfl
@[simp] theorem retire_read (s : State) (op : Byte) (len : Word) (taken crossed : Bool) (c : Word) : (retire op len taken crossed s).read c = s.read c := rfl
@[simp] theorem retire_flag (s : State) (op : Byte) (len : Word) (taken crossed : Bool) (f : Flag) : (retire op len taken crossed s).flag f = s.flag f := rfl

/-! `freeAddr` -/

@[simp] theorem freeAddr_a (s : State) : (freeAddr s).a = s.a := rfl
@[simp] theorem freeAddr_x (s : State) : (freeAddr s).x = s.x := rfl
@[simp] theorem freeAddr_y (s : State) : (freeAddr s).y = s.y := rfl
@[simp] theorem freeAddr_sp (s : State) : (freeAddr s).sp = s.sp := rfl
@[simp] theorem freeAddr_pc (s : State) : (freeAddr s).pc = s.pc := rfl
@[simp] theorem freeAddr_p (s : State) : (freeAddr s).p = s.p := rfl
@[simp] theorem freeAddr_ir (s : State) : (freeAddr s).ir = s.ir := rfl
@[simp] theorem freeAddr_addr (s : State) : (freeAddr s).addr = Config.freeAddr s.draws := rfl
@[simp] theorem freeAddr_storadd (s : State) : (freeAddr s).storadd = s.storadd := rfl
@[simp] theorem freeAddr_cycles (s : State) : (freeAddr s).cycles = s.cycles := rfl
@[simp] theorem freeAddr_status (s : State) : (freeAddr s).status = s.status := rfl
@[simp] theorem freeAddr_mem (s : State) : (freeAddr s).mem = s.mem := rfl
@[simp] theorem freeAddr_chip0 (s : State) : (freeAddr s).chip0 = s.chip0 := rfl
@[simp] theorem freeAddr_chip1 (s : State) : (freeAddr s).chip1 = s.chip1 := rfl
@[simp] theorem freeAddr_chip2 (s : State) : (freeAddr s).chip2 = s.chip2 := rfl
@[simp] theorem freeAddr_chipCount (s : State) : (freeAddr s).chipCount = s.chipCount := rfl
@[simp] theorem freeAddr_params (s : State) : (freeAddr s).params = s.params := rfl
@[simp] theorem freeAddr_draws (s : State) : (freeAddr s).draws = s.draws + 1 := rfl
@[simp] theorem freeAddr_calls (s : State) : (freeAddr s).calls = s.calls := rfl
@[simp] theorem freeAddr_cpuReady (s : State) : (freeAddr s).cpuReady = s.cpuReady := rfl
@[simp] theorem freeAddr_devReady (s : State) : (freeAddr s).devReady = s.devReady := rfl
@[simp] theorem freeAddr_read (s : State) (c : Word) : (freeAddr s).read c = s.read c := rfl
@[simp] theorem freeAddr_flag (s : State) (f : Flag) : (freeAddr s).flag f = s.flag f := rfl

/-! `retireAt` -/

@[simp] theorem retireAt_a (s : State) (op : Byte) (acc : Access) : (retireAt op acc s).a = s.a := rfl
@[simp] theorem retireAt_x (s : State) (op : Byte) (acc : Access) : (retireAt op acc s).x = s.x := rfl
@[simp] theorem retireAt_y (s : State) (op : Byte) (acc : Access) : (retireAt op acc s).y = s.y := rfl
@[simp] theorem retireAt_sp (s : State) (op : Byte) (acc : Access) : (retireAt op acc s).sp = s.sp := rfl
@[simp] theorem retireAt_pc (s : State) (op : Byte) (acc : Access) : (retireAt op acc s).pc = s.pc + acc.len := rfl
@[simp] theorem retireAt_p (s : State) (op : Byte) (acc : Access) : (retireAt op acc s).p = s.p := rfl
@[simp] theorem retireAt_ir (s : State) (op : Byte) (acc : Access) : (retireAt op acc s).ir = op := rfl
@[simp] theorem retireAt_addr (s : State) (op : Byte) (acc : Access) : (retireAt op acc s).addr = acc.ea := rfl
@[simp] theorem retireAt_storadd (s : State) (op : Byte) (acc : Access) : (retireAt op acc s).storadd = 0 := rfl
@[simp] theorem retireAt_cycles (s : State) (op : Byte) (acc : Access) : (retireAt op acc s).cycles = cycleTable op false acc.crossed := rfl
@[simp] theorem retireAt_status (s : State) (op : Byte) (acc : Access) : (retireAt op acc s).status = 0 := rfl
@[simp] theorem retireAt_mem (s : State) (op : Byte) (acc : Access) : (retireAt op acc s).mem = s.mem := rfl
@[simp] theorem retireAt_chip0 (s : State) (op : Byte) (acc : Access) : (retireAt op acc s).chip0 = s.chip0 := rfl
@[simp] theorem retireAt_chip1 (s : State) (op : Byte) (acc : Access) : (retireAt op acc s).chip1 = s.chip1 := rfl
@[simp] theorem retireAt_chip2 (s : State) (op : Byte) (acc : Access) : (retireAt op acc s).chip2 = s.chip2 := rfl
@[simp] theorem retireAt_chipCount (s : State) (op : Byte) (acc : Access) : (retireAt op acc s).chipCount = s.chipCount := rfl
@[simp] theorem retireAt_params (s : State) (op : Byte) (acc : Access) : (retireAt op acc s).params = s.params := rfl
@[simp] theorem retireAt_draws (s : State) (op : Byte) (acc : Access) : (retireAt op acc s).draws = s.draws := rfl
@[simp] theorem retireAt_calls (s : State) (op : Byte) (acc : Access) : (retireAt op acc s).calls = s.calls := rfl
@[simp] theorem retireAt_cpuReady (s : State) (op : Byte) (acc : Access) : (retireAt op acc s).cpuReady = s.cpuReady := rfl
@[simp] theorem retireAt_devReady (s : State) (op : Byte) (acc : Access) : (retireAt op acc s).devReady = s.devReady := rfl
@[simp] theorem retireAt_read (s : State) (op : Byte) (acc : Access) (c : Word) : (retireAt op acc s).read c = s.read c := rfl
@[simp] theorem retireAt_flag (s : State) (op : Byte) (acc : Access) (f : Flag) : (retireAt op acc s).flag f = s.flag f := rfl

end Sys2Proof.Machine
end

