-- ==== Sys2Proof/Laws/Flags.lean ====
section
/-! SUPPORT. The flags of the status byte after each update. -/

namespace Sys2Proof.Machine

theorem flagPos_lt (f : Flag) : flagPos f < 8 := by cases f <;> decide

theorem flagPos_injective {f g : Flag} (h : flagPos f = flagPos g) : f = g := by
  cases f <;> cases g <;> first | rfl | (simp [flagPos] at h)

/-- A flag after one flag is set. -/
theorem getFlag_putFlag (p : Byte) (f g : Flag) (v : Bool) :
    getFlag (putFlag p f v) g = if g = f then v else getFlag p g := by
  have hg := flagPos_lt g
  by_cases h : g = f
  · subst h
    cases v <;> simp [getFlag, putFlag, hg]
  · have hne : flagPos g ≠ flagPos f := fun e => h (flagPos_injective e)
    cases v <;> simp [getFlag, putFlag, h, hg, hne]

/-- A flag after `SetNZ`. -/
theorem getFlag_putNZ (p v : Byte) (g : Flag) :
    getFlag (putNZ p v) g = if g = .z then decide (v = 0) else if g = .n then bit7 v else getFlag p g := by
  simp only [putNZ, getFlag_putFlag]

/-- A flag after an addition or a subtraction. -/
theorem getFlag_putSum (p : Byte) (u : Sum) (g : Flag) :
    getFlag (putSum p u) g =
      if g = .z then decide (u.r = 0) else if g = .n then bit7 u.r else if g = .v then u.v else if g = .c then u.c
      else getFlag p g := by
  simp only [putSum, getFlag_putNZ, getFlag_putFlag]

/-- A flag after a comparison. -/
theorem getFlag_putCompare (p r m : Byte) (g : Flag) :
    getFlag (putCompare p r m) g =
      if g = .n then bit7 (r - m) else if g = .z then decide (r = m) else if g = .c then decide (m ≤ r)
      else getFlag p g := by
  simp only [putCompare, getFlag_putFlag]

/-- Two status bytes with the same flags are the same byte. -/
theorem eq_of_getFlag {p q : Byte} (h : ∀ f, getFlag p f = getFlag q f) : p = q := by
  apply BitVec.eq_of_getLsbD_eq
  intro i hi
  match i, hi with
  | 0, _ => exact h .c
  | 1, _ => exact h .z
  | 2, _ => exact h .i
  | 3, _ => exact h .d
  | 4, _ => exact h .b
  | 5, _ => exact h .bit5
  | 6, _ => exact h .v
  | 7, _ => exact h .n
  | n + 8, hi => omega

@[simp] theorem State.flag_setP (s : State) (q : Byte) (f : Flag) : (s.setP q).flag f = getFlag q f := rfl

theorem State.flag_setFlag (s : State) (f g : Flag) (v : Bool) :
    (s.setFlag f v).flag g = if g = f then v else s.flag g := getFlag_putFlag s.p f g v

theorem State.flag_setNZ (s : State) (v : Byte) (g : Flag) :
    (s.setNZ v).flag g = if g = .z then decide (v = 0) else if g = .n then bit7 v else s.flag g :=
  getFlag_putNZ s.p v g

theorem State.flag_setSum (s : State) (u : Sum) (g : Flag) :
    (s.setSum u).flag g =
      if g = .z then decide (u.r = 0) else if g = .n then bit7 u.r else if g = .v then u.v else if g = .c then u.c
      else s.flag g := getFlag_putSum s.p u g

theorem State.flag_compare (s : State) (r m : Byte) (g : Flag) :
    (s.compare r m).flag g =
      if g = .n then bit7 (r - m) else if g = .z then decide (r = m) else if g = .c then decide (m ≤ r)
      else s.flag g := getFlag_putCompare s.p r m g

@[simp] theorem State.flag_write (s : State) (a : Word) (v : Byte) (f : Flag) : (s.write a v).flag f = s.flag f := rfl

end Sys2Proof.Machine
end

