-- ==== Sys2Proof/Laws/Memory.lean ====
section
/-! SUPPORT. Memory: reading after writing, and the canonical form under every operation. -/

namespace Sys2Proof.Machine

theorem memLookup_insert_same (m : List Host.Cell) (a : Nat) (v : Byte) : memLookup (memInsert m a v) a = some v := by
  induction m with
  | nil => simp [memInsert, memLookup]
  | cons cell rest ih =>
    obtain ⟨k, u⟩ := cell
    simp only [memInsert]
    split
    · simp [memLookup]
    · split
      · simp [memLookup]
      · rename_i hne
        simpa [memLookup, hne] using ih

theorem memLookup_insert_ne (m : List Host.Cell) {a c : Nat} (v : Byte) (h : c ≠ a) :
    memLookup (memInsert m a v) c = memLookup m c := by
  induction m with
  | nil => simp [memInsert, memLookup, h]
  | cons cell rest ih =>
    obtain ⟨k, u⟩ := cell
    simp only [memInsert]
    split
    · simp [memLookup, h]
    · split
      · rename_i heq
        subst heq
        simp [memLookup, h]
      · simp [memLookup, ih]

theorem memRising_mono {lo lo' : Nat} {m : List Host.Cell} (h : memRising lo m = true) (hl : lo' ≤ lo) :
    memRising lo' m = true := by
  cases m with
  | nil => rfl
  | cons cell rest =>
    obtain ⟨k, u⟩ := cell
    simp only [memRising, Bool.and_eq_true, decide_eq_true_eq] at h ⊢
    exact ⟨⟨by omega, h.1.2⟩, h.2⟩

theorem memRising_insert {m : List Host.Cell} {lo a : Nat} {v : Byte} (h : memRising lo m = true) (hl : lo ≤ a)
    (ha : a < 0x10000) : memRising lo (memInsert m a v) = true := by
  induction m generalizing lo with
  | nil => simp [memInsert, memRising, hl, ha]
  | cons cell rest ih =>
    obtain ⟨k, u⟩ := cell
    simp only [memRising, Bool.and_eq_true, decide_eq_true_eq] at h
    simp only [memInsert]
    split
    · rename_i hlt
      simp only [memRising, Bool.and_eq_true, decide_eq_true_eq]
      exact ⟨⟨hl, ha⟩, ⟨⟨by omega, h.1.2⟩, h.2⟩⟩
    · split
      · rename_i heq
        subst heq
        simp only [memRising, Bool.and_eq_true, decide_eq_true_eq]
        exact ⟨⟨hl, ha⟩, h.2⟩
      · simp only [memRising, Bool.and_eq_true, decide_eq_true_eq]
        exact ⟨h.1, ih h.2 (by omega)⟩

/-- A write keeps the canonical form. -/
theorem memWf_write {s : State} (a : Word) (v : Byte) (h : memWf s.mem = true) : memWf (s.write a v).mem = true :=
  memRising_insert h (Nat.zero_le _) a.isLt

@[simp] theorem read_write_same (s : State) (a : Word) (v : Byte) : (s.write a v).read a = v := by
  simp [State.read, State.write, memLookup_insert_same]

theorem read_write_ne (s : State) {a c : Word} (v : Byte) (h : c ≠ a) : (s.write a v).read c = s.read c := by
  have hn : c.toNat ≠ a.toNat := fun e => h (BitVec.eq_of_toNat_eq e)
  simp [State.read, State.write, memLookup_insert_ne _ _ hn]

/-- Reading after a write, in one lemma. -/
theorem read_write (s : State) (a c : Word) (v : Byte) : (s.write a v).read c = if c = a then v else s.read c := by
  split
  · rename_i h
    subst h
    simp
  · rename_i h
    exact read_write_ne s v h

/-- A push keeps the canonical form. -/
theorem memWf_push {s : State} (v : Byte) (h : memWf s.mem = true) : memWf (s.push v).mem = true :=
  memRising_insert h (Nat.zero_le _) (stackSlot s.sp).isLt

theorem memWf_pushWord {s : State} (w : Word) (h : memWf s.mem = true) : memWf (s.pushWord w).mem = true :=
  memWf_push _ (memWf_push _ h)

/-- The read-back bytes of an `emulate` keep the canonical form. -/
theorem memWf_freeReadBack {s : State} (base : Word) (h : memWf s.mem = true) :
    memWf (freeReadBack base s).mem = true :=
  memWf_write _ _ (memWf_write _ _ (memWf_write _ _ (memWf_write _ _ h)))

/-- Zeroing a run of bytes keeps the canonical form. -/
theorem memWf_zeroBytes (n : Nat) (a : Word) {s : State} (h : memWf s.mem = true) : memWf (zeroBytes n a s).mem = true := by
  induction n generalizing a s with
  | zero => exact h
  | succ n ih => exact ih (a + 1) (memWf_write a 0 h)

theorem memWf_zeroWindow (i : ChipIndex) {s : State} (h : memWf s.mem = true) : memWf (zeroWindow i s).mem = true := by
  unfold zeroWindow
  split
  · exact memWf_zeroBytes _ _ h
  · exact h

/-- Placing an instruction keeps the canonical form. -/
theorem memWf_withFetchWord {s : State} (nbits w : Nat) (h : memWf s.mem = true) :
    memWf (s.withFetchWord nbits w).mem = true :=
  memWf_write _ _ (memWf_write _ _ (memWf_write _ _ h))

/-- The memory of the reset state is in canonical form. -/
theorem memWf_reset : memWf State.reset.mem = true := by decide

end Sys2Proof.Machine
end

