-- ==== Sys2Proof/Laws/Ops.lean ====
section
/-! SUPPORT. One lemma for each shape of instruction (Machine/Ops.lean, Machine/Operands.lean): what it answers. Every
shape always answers a next state; a proof about an instruction cites the shape's lemma and the field lemmas of
Laws/State.lean instead of unfolding the shape. -/

namespace Sys2Proof.Machine

theorem readOp_next {op : Byte} {acc : Access} {v : Byte} {f : Byte → State → State} {s t : State} :
    readOp op acc v f s = .next t ↔ t = retireAt op acc (f v s) := by
  simp [readOp, eq_comm]

theorem readImm_next {op b : Byte} {f : Byte → State → State} {s t : State} :
    readImm op b f s = .next t ↔ t = retireAt op (accImm s) (f b s) := readOp_next

theorem readMem_next {op : Byte} {acc : Access} {f : Byte → State → State} {s t : State} :
    readMem op acc f s = .next t ↔ t = retireAt op acc (f (s.read acc.ea) s) := readOp_next

theorem storeOp_next {op : Byte} {acc : Access} {v : Byte} {s t : State} :
    storeOp op acc v s = .next t ↔ t = { retireAt op acc (s.write acc.ea v) with storadd := acc.ea } := by
  simp [storeOp, eq_comm]

/-- What a store does to memory. -/
theorem storeOp_read {op : Byte} {acc : Access} {v : Byte} {s t : State} (h : storeOp op acc v s = .next t) (c : Word) :
    t.read c = if c = acc.ea then v else s.read c := by
  rw [storeOp_next] at h
  subst h
  exact read_write s acc.ea c v

theorem modifyOp_next {op : Byte} {acc : Access} {new : Byte → Byte} {after : Byte → State → State} {s t : State} :
    modifyOp op acc new after s = .next t ↔
      t = retireAt op acc (after (s.read acc.ea) (s.write acc.ea (new (s.read acc.ea)))) := by
  simp [modifyOp, eq_comm]

theorem impliedOp_next {op : Byte} {f : State → State} {s t : State} :
    impliedOp op f s = .next t ↔ t = freeAddr (retire op 1 false false (f s)) := by
  simp [impliedOp, eq_comm]

/-- The carry that a shift of memory sees is the one before it. -/
theorem shiftMemOp_next {op : Byte} {acc : Access} {shift : Byte → Bool → Shifted} {s t : State} :
    shiftMemOp op acc shift s = .next t ↔
      t = retireAt op acc (((s.write acc.ea (shift (s.read acc.ea) (s.flag .c)).r).setFlag .c
        (shift (s.read acc.ea) (s.flag .c)).c).setNZ (shift (s.read acc.ea) (s.flag .c)).r) := by
  simp [shiftMemOp, modifyOp, eq_comm]

theorem shiftAccOp_next {op : Byte} {shift : Byte → Bool → Shifted} {s t : State} :
    shiftAccOp op shift s = .next t ↔
      t = freeAddr (retire op 1 false false (((s.setA (shift s.a (s.flag .c)).r).setFlag .c
        (shift s.a (s.flag .c)).c).setNZ (shift s.a (s.flag .c)).r)) := by
  simp [shiftAccOp, impliedOp, eq_comm]

theorem shiftThenOp_next {op : Byte} {acc : Access} {shift : Byte → Bool → Shifted} {alu : Byte → State → State}
    {s t : State} :
    shiftThenOp op acc shift alu s = .next t ↔
      t = retireAt op acc (alu (shift (s.read acc.ea) (s.flag .c)).r
        ((s.write acc.ea (shift (s.read acc.ea) (s.flag .c)).r).setFlag .c (shift (s.read acc.ea) (s.flag .c)).c)) := by
  simp [shiftThenOp, modifyOp, eq_comm]

theorem countMemOp_next {op : Byte} {acc : Access} {new : Byte → Byte} {s t : State} :
    countMemOp op acc new s = .next t ↔
      t = retireAt op acc ((s.write acc.ea (new (s.read acc.ea))).setNZ (new (s.read acc.ea))) := modifyOp_next

theorem branchOp_taken {op b : Byte} {s t : State} :
    branchOp op b true s = .next t ↔
      t = (freeAddr (retire op 2 true (decide (hiByte (branchTarget s.pc b) ≠ hiByte (s.pc + 2))) s)).setPc
        (branchTarget s.pc b) := by
  simp [branchOp, eq_comm]

theorem branchOp_not_taken {op b : Byte} {s t : State} :
    branchOp op b false s = .next t ↔ t = freeAddr (retire op 2 false false s) := by
  simp [branchOp, eq_comm]

theorem jumpOp_next {op : Byte} {len target : Word} {s t : State} :
    jumpOp op len target s = .next t ↔ t = (freeAddr (retire op len false false s)).setPc target := by
  simp [jumpOp, eq_comm]

theorem callOp_next {op : Byte} {target : Word} {s t : State} :
    callOp op target s = .next t ↔
      t = (freeAddr (retire op 3 false false (s.pushWord (s.pc + 2)))).setPc target := by
  simp [callOp, eq_comm]

theorem transferOp_next {op : Byte} {f : State → State} {s t : State} :
    transferOp op f s = .next t ↔ t = (freeAddr (retire op 1 false false (f s))).setPc (f s).pc := by
  simp [transferOp, eq_comm]

theorem sentinelOp_next {op status : Byte} {s t : State} :
    sentinelOp op status s = .next t ↔
      t = freeAddr { s with ir := op, storadd := 0, status := status, cycles := Config.freeCycles s.draws } := by
  simp [sentinelOp, eq_comm]

theorem returnOp_empty {op sentinel : Byte} {f : State → State} {s : State} (h : s.sp = spReset) :
    returnOp op sentinel f s = sentinelOp op sentinel s := by
  simp [returnOp, h]

theorem returnOp_not_empty {op sentinel : Byte} {f : State → State} {s : State} (h : s.sp ≠ spReset) :
    returnOp op sentinel f s = transferOp op f s := by
  simp [returnOp, h]

/-- A return always answers a next state. -/
theorem returnOp_completes (op sentinel : Byte) (f : State → State) (s : State) :
    ∃ t, returnOp op sentinel f s = .next t := by
  by_cases h : s.sp = spReset
  · exact ⟨_, (returnOp_empty h).trans (sentinelOp_next.mpr rfl)⟩
  · exact ⟨_, (returnOp_not_empty h).trans (transferOp_next.mpr rfl)⟩

/-! ## The stack -/

/-- Memory after a push. -/
theorem read_push (s : State) (v : Byte) (c : Word) :
    (s.push v).read c = if c = stackSlot s.sp then v else s.read c := read_write s (stackSlot s.sp) c v

/-- What was pushed is what is pulled. -/
theorem pulled_push (s : State) (v : Byte) : (s.push v).pulled = v := by
  have h : (s.push v).sp + 1 = s.sp := by simp
  rw [State.pulled, h, read_push]
  simp

/-- Two stack pointers name the same slot only if they are equal. -/
theorem stackSlot_injective {a b : Byte} (h : stackSlot a = stackSlot b) : a = b := by
  have ha := a.isLt
  have hb := b.isLt
  have h' := congrArg BitVec.toNat h
  simp [stackSlot, stackBase, zext16, BitVec.toNat_add] at h'
  apply BitVec.eq_of_toNat_eq
  omega

/-- Every stack slot lies in the stack page. -/
theorem stackSlot_toNat (a : Byte) : (stackSlot a).toNat = 0x100 + a.toNat := by
  have ha := a.isLt
  simp [stackSlot, stackBase, zext16, BitVec.toNat_add]
  omega

/-! ## Whole-machine facts about a step -/

/-- With no host call due, a step is a tick. -/
theorem step_eq_tick {s : State} (h : s.calls = []) : step s = tick s := by
  simp [step, stepOnce, h]

/-- A due host call is the step. -/
theorem step_eq_runCall {s : State} {call : HostCall} {rest : List HostCall} (h : s.calls = call :: rest) :
    step s = runCall call { s with calls := rest } := by
  simp [step, stepOnce, h]

/-- A tick after `init` is the fetched instruction. -/
theorem tick_eq_exec {s : State} (h : s.cpuReady = true) : tick s = exec (fetch s) s := by
  simp [tick, h]

/-- The figure of a read-modify-write instruction includes extra cycles (rule R420 (b)). -/
theorem baseCycles_lt_cycleTable {op : Byte} (h : isRmw op = true) (taken crossed : Bool) :
    Config.baseCycles op taken crossed < cycleTable op taken crossed := by
  simp [cycleTable, h]

/-- The figure of any other instruction is the table's own (rule R420). -/
theorem cycleTable_of_not_rmw {op : Byte} (h : isRmw op = false) (taken crossed : Bool) :
    cycleTable op taken crossed = Config.baseCycles op taken crossed := by
  simp [cycleTable, h]

end Sys2Proof.Machine
end

