-- ==== Sys2Proof/Laws/Device.lean ====
section
/-! SUPPORT. The sound device: the remainder of a rational, the accessors of the chips, and what `emulate` and
`chip_init` do to the rest of the state. -/

namespace Sys2Proof.Machine

/-- A remainder lies in [0, m). -/
theorem ratMod_range (x : Rat) {m : Rat} (h : 0 < m) : 0 ≤ ratMod x m ∧ ratMod x m < m := by
  have h1 : ((x / m).floor : Rat) ≤ x / m := by exact_mod_cast Int.floor_le (x / m)
  have h2 : x / m < ((x / m).floor : Rat) + 1 := by exact_mod_cast Int.lt_floor_add_one (x / m)
  have hx : x / m * m = x := div_mul_cancel₀ x h.ne'
  unfold ratMod
  constructor <;> nlinarith

/-- A remainder of a value in range is the value. -/
theorem ratMod_of_lt {x m : Rat} (h0 : 0 ≤ x) (h : x < m) : ratMod x m = x := by
  have hm : 0 < m := lt_of_le_of_lt h0 h
  have hf : (x / m).floor = 0 := by
    have : ⌊x / m⌋ = 0 := by
      rw [Int.floor_eq_zero_iff]
      exact ⟨div_nonneg h0 hm.le, (div_lt_one hm).mpr h⟩
    exact this
  simp [ratMod, hf]

theorem posRat_pos (n d : Nat) : 0 < Config.posRat n d := by
  unfold Config.posRat
  positivity

/-- The numbers of this machine are within the limits of rules R5 and R343. -/
theorem dev_valid : Config.dev.Valid where
  clkRatio_pos := posRat_pos _ _
  adsrPeriod_nonneg _ := (posRat_pos _ _).le
  adsrStepZero_pos := Nat.le_add_left 1 _
  outputNorm_ne_zero := (posRat_pos _ _).ne'

@[simp] theorem chip_setChip_same (s : State) (i : ChipIndex) (c : Chip) : (s.setChip i c).chip i = c := by
  cases i <;> rfl

theorem chip_setChip_ne (s : State) {i j : ChipIndex} (c : Chip) (h : j ≠ i) : (s.setChip i c).chip j = s.chip j := by
  cases i <;> cases j <;> first | rfl | exact absurd rfl h

@[simp] theorem read_setChip (s : State) (i : ChipIndex) (c : Chip) (a : Word) : (s.setChip i c).read a = s.read a := by
  cases i <;> rfl

@[simp] theorem visible_fields_setChip (s : State) (i : ChipIndex) (c : Chip) :
    (s.setChip i c).a = s.a ∧ (s.setChip i c).x = s.x ∧ (s.setChip i c).y = s.y ∧ (s.setChip i c).sp = s.sp ∧
      (s.setChip i c).pc = s.pc ∧ (s.setChip i c).p = s.p ∧ (s.setChip i c).mem = s.mem ∧
      (s.setChip i c).params = s.params := by
  cases i <;> exact ⟨rfl, rfl, rfl, rfl, rfl, rfl, rfl, rfl⟩

/-- Memory after the read-back bytes of a window became free (rule R335): any other address reads as before. -/
theorem read_freeReadBack_ne (base : Word) (s : State) {c : Word} (h0 : c ≠ base + 0x19) (h1 : c ≠ base + 0x1A)
    (h2 : c ≠ base + 0x1B) (h3 : c ≠ base + 0x1C) : (freeReadBack base s).read c = s.read c := by
  show ((((s.write _ _).write _ _).write _ _).write _ _).read c = _
  rw [read_write_ne _ _ h3, read_write_ne _ _ h2, read_write_ne _ _ h1, read_write_ne _ _ h0]

/-- An active chip's `emulate` answers a next state. -/
theorem emulate_next {i : ChipIndex} {base : Word} {s : State} (hr : s.devReady = true)
    (ha : chipActive s.chipCount i = true) : emulate i base s = .next (emulateWith Config.dev i base s) := by
  simp [emulate, hr, ha]

/-! ## The envelope -/

/-- Everything a move of the envelope counter can do (rules R347, R348): attack only ends, the counter does not fall in
attack nor rise outside it and is frozen under hold-zero, which stays latched or latches at 0. -/
theorem envelopeMove_spec (cfg : DevConfig) (r : VoiceRegs) (rate : BitVec 4) (ch : Channel) :
    ∃ attack holdzero envcnt,
      envelopeMove cfg r rate ch = { ch with attack := attack, holdzero := holdzero, envcnt := envcnt } ∧
      (attack = true → ch.attack = true) ∧ (ch.holdzero = true → holdzero = true ∧ envcnt = ch.envcnt) ∧
      (ch.attack = true → ch.envcnt.toNat ≤ envcnt.toNat) ∧ (ch.attack = false → envcnt.toNat ≤ ch.envcnt.toNat) ∧
      (holdzero = true → ch.holdzero = true ∨ envcnt = 0) := by
  refine ⟨(envelopeMove cfg r rate ch).attack, (envelopeMove cfg r rate ch).holdzero,
    (envelopeMove cfg r rate ch).envcnt, ?_⟩
  have := ch.envcnt.isLt
  unfold envelopeMove envelopeUp envelopeDown
  refine ⟨by (repeat' split) <;> rfl, ?_, ?_, ?_, ?_, ?_⟩ <;> (repeat' split) <;> simp_all <;> omega

/-- Everything a reached period can do to a channel: what a move can, and the sub-counter. -/
theorem envelopeFire_spec (cfg : DevConfig) (r : VoiceRegs) (ch : Channel) :
    ∃ attack holdzero envcnt expcnt,
      envelopeFire cfg r ch = { ch with attack := attack, holdzero := holdzero, envcnt := envcnt, expcnt := expcnt } ∧
      (attack = true → ch.attack = true) ∧ (ch.holdzero = true → holdzero = true ∧ envcnt = ch.envcnt) ∧
      (ch.attack = true → ch.envcnt.toNat ≤ envcnt.toNat) ∧ (ch.attack = false → envcnt.toNat ≤ ch.envcnt.toNat) ∧
      (holdzero = true → ch.holdzero = true ∨ envcnt = 0) := by
  obtain ⟨a, h, e, hm, hs⟩ := envelopeMove_spec cfg r (rateNibble r ch) ch
  have stay : (ch.attack = true → ch.attack = true) ∧ (ch.holdzero = true → ch.holdzero = true ∧ ch.envcnt = ch.envcnt) ∧
      (ch.attack = true → ch.envcnt.toNat ≤ ch.envcnt.toNat) ∧
      (ch.attack = false → ch.envcnt.toNat ≤ ch.envcnt.toNat) ∧
      (ch.holdzero = true → ch.holdzero = true ∨ ch.envcnt = 0) :=
    ⟨id, fun h => ⟨h, rfl⟩, fun _ => le_rfl, fun _ => le_rfl, Or.inl⟩
  unfold envelopeFire
  dsimp only
  split
  · exact ⟨a, h, e, 0, by rw [hm], hs⟩
  · split
    · exact ⟨a, h, e, 0, by rw [hm], hs⟩
    · exact ⟨_, _, _, ch.expcnt + 1, rfl, stay⟩

/-- Whatever the realisation, a comparison leaves the rate counter in its range (rule R37). -/
theorem rateCompare_range {cfg : DevConfig} (hp : ∀ n, 0 ≤ cfg.adsrPeriod n) (r : VoiceRegs) (before : Rat)
    {ch : Channel} (h0 : 0 ≤ ch.ratecnt) (h1 : ch.ratecnt < 0x8000) :
    0 ≤ (rateCompare cfg r before ch).ratecnt ∧ (rateCompare cfg r before ch).ratecnt < 0x8000 := by
  have hn := hp (rateNibble r ch)
  unfold rateCompare
  split
  · unfold candidateRate
    dsimp only
    split
    · next h => exact ⟨sub_nonneg.mpr h.1, by dsimp only; linarith⟩
    · exact ⟨h0, h1⟩
  · exact ratMod_range _ (by norm_num)

/-- Everything a comparison can do to a channel (rules R347, R348), whatever the realisation. -/
theorem envelopeCompare_spec (cfg : DevConfig) (r : VoiceRegs) (before : Rat) (ch : Channel) :
    ∃ attack holdzero envcnt expcnt,
      envelopeCompare cfg r before ch =
        { ch with attack := attack, holdzero := holdzero, envcnt := envcnt, expcnt := expcnt,
                  ratecnt := (rateCompare cfg r before ch).ratecnt } ∧
      (attack = true → ch.attack = true) ∧ (ch.holdzero = true → holdzero = true ∧ envcnt = ch.envcnt) ∧
      (ch.attack = true → ch.envcnt.toNat ≤ envcnt.toNat) ∧ (ch.attack = false → envcnt.toNat ≤ ch.envcnt.toNat) ∧
      (holdzero = true → ch.holdzero = true ∨ envcnt = 0) := by
  unfold envelopeCompare
  dsimp only
  split
  · obtain ⟨a, h, e, x, hf, hs⟩ :=
      envelopeFire_spec cfg r { ch with ratecnt := (rateCompare cfg r before ch).ratecnt }
    exact ⟨a, h, e, x, hf, hs⟩
  · exact ⟨_, _, _, _, rfl, id, fun h => ⟨h, rfl⟩, fun _ => le_rfl, fun _ => le_rfl, Or.inl⟩

/-- The counters a gate edge keeps (rule R341). -/
theorem gateEdge_counters (r : VoiceRegs) (ch : Channel) :
    (gateEdge r ch).ratecnt = ch.ratecnt ∧ (gateEdge r ch).envcnt = ch.envcnt ∧ (gateEdge r ch).expcnt = ch.expcnt ∧
      (gateEdge r ch).phase = ch.phase ∧ (gateEdge r ch).prevphase = ch.prevphase := by
  unfold gateEdge
  split <;> (try split) <;> simp

/-- A gate edge never latches hold-zero (rule R341). -/
theorem holdzero_of_gateEdge {r : VoiceRegs} {ch : Channel} (h : (gateEdge r ch).holdzero = true) :
    ch.holdzero = true := by
  revert h
  unfold gateEdge
  split <;> (try split) <;> simp

/-- The step on a sample whose comparison the delay bug suppresses (rule R344). -/
theorem envelopeStep_suppressed {cfg : DevConfig} {r : VoiceRegs} {ch : Channel} (h : delayBug r ch = true) :
    envelopeStep cfg r ch = { gateEdge r ch with prevSR := r.sr, ratecnt := rateAdvance cfg ch.ratecnt } := by
  simp [envelopeStep, h]

/-- The step on any other sample. -/
theorem envelopeStep_compared {cfg : DevConfig} {r : VoiceRegs} {ch : Channel} (h : delayBug r ch = false) :
    envelopeStep cfg r ch = envelopeCompare cfg r ch.ratecnt
      { gateEdge r ch with prevSR := r.sr, ratecnt := rateAdvance cfg ch.ratecnt } := by
  simp [envelopeStep, h]

end Sys2Proof.Machine
end

