-- ==== Sys2Proof/Machine/Assembler.lean ====
section
/-! DEFINITION. How an instruction is named and written: the descriptor of an opcode byte (30_encoding.md rules R82, R98)
and the assembler text of an instruction (rule R104). Nothing in the machine reads it. -/

namespace Sys2Proof

/-! ## The descriptor of an opcode byte -/

/-- The mnemonics of the opcode map (rule R99), row by row. -/
def mnemonicMap : Vector (Vector String 16) 16 :=
  #v[
    #v["BRK", "ORA", "JAM", "SLO", "NOP", "ORA", "ASL", "SLO",
      "PHP", "ORA", "ASL", "ANC", "NOP", "ORA", "ASL", "SLO"],
    #v["BPL", "ORA", "JAM", "SLO", "NOP", "ORA", "ASL", "SLO",
      "CLC", "ORA", "NOP", "SLO", "NOP", "ORA", "ASL", "SLO"],
    #v["JSR", "AND", "JAM", "RLA", "BIT", "AND", "ROL", "RLA",
      "PLP", "AND", "ROL", "ANC", "BIT", "AND", "ROL", "RLA"],
    #v["BMI", "AND", "JAM", "RLA", "NOP", "AND", "ROL", "RLA",
      "SEC", "AND", "NOP", "RLA", "NOP", "AND", "ROL", "RLA"],
    #v["RTI", "EOR", "JAM", "SRE", "NOP", "EOR", "LSR", "SRE",
      "PHA", "EOR", "LSR", "ALR", "JMP", "EOR", "LSR", "SRE"],
    #v["BVC", "EOR", "JAM", "SRE", "NOP", "EOR", "LSR", "SRE",
      "CLI", "EOR", "NOP", "SRE", "NOP", "EOR", "LSR", "SRE"],
    #v["RTS", "ADC", "JAM", "RRA", "NOP", "ADC", "ROR", "RRA",
      "PLA", "ADC", "ROR", "ARR", "JMP", "ADC", "ROR", "RRA"],
    #v["BVS", "ADC", "JAM", "RRA", "NOP", "ADC", "ROR", "RRA",
      "SEI", "ADC", "NOP", "RRA", "NOP", "ADC", "ROR", "RRA"],
    #v["NOP", "STA", "NOP", "SAX", "STY", "STA", "STX", "SAX",
      "DEY", "NOP", "TXA", "ANE", "STY", "STA", "STX", "SAX"],
    #v["BCC", "STA", "JAM", "SHA", "STY", "STA", "STX", "SAX",
      "TYA", "STA", "TXS", "TAS", "SHY", "STA", "SHX", "SHA"],
    #v["LDY", "LDA", "LDX", "LAX", "LDY", "LDA", "LDX", "LAX",
      "TAY", "LDA", "TAX", "LXA", "LDY", "LDA", "LDX", "LAX"],
    #v["BCS", "LDA", "JAM", "LAX", "LDY", "LDA", "LDX", "LAX",
      "CLV", "LDA", "TSX", "LAS", "LDY", "LDA", "LDX", "LAX"],
    #v["CPY", "CMP", "NOP", "DCP", "CPY", "CMP", "DEC", "DCP",
      "INY", "CMP", "DEX", "SBX", "CPY", "CMP", "DEC", "DCP"],
    #v["BNE", "CMP", "JAM", "DCP", "NOP", "CMP", "DEC", "DCP",
      "CLD", "CMP", "NOP", "DCP", "NOP", "CMP", "DEC", "DCP"],
    #v["CPX", "SBC", "NOP", "ISC", "CPX", "SBC", "INC", "ISC",
      "INX", "SBC", "NOP", "SBC", "CPX", "SBC", "INC", "ISC"],
    #v["BEQ", "SBC", "JAM", "ISC", "NOP", "SBC", "INC", "ISC",
      "SED", "SBC", "NOP", "ISC", "NOP", "SBC", "INC", "ISC"]]

/-- The mnemonic of an opcode byte (rule R99). -/
def mnemonicOf (op : Byte) : String := (mnemonicMap[op.toNat / 16]'(by omega))[op.toNat % 16]'(by omega)

/-- The four families of rule R82. -/
inductive Family where
  | alu | shiftRegister | stackFlag | control
  deriving DecidableEq, Repr

/-- The family of an opcode byte, by the bit tests of rule R82. -/
def familyOf (op : Byte) : Family :=
  if op.getLsbD 0 then .alu
  else if op.getLsbD 1 then .shiftRegister
  else if op.extractLsb' 2 2 = 0b10 then .stackFlag
  else .control

/-- What the decode step gives for an opcode byte (rule R98). -/
structure Descriptor where
  mnemonic : String
  mode : Mode
  opcodeClass : OpcodeClass
  deriving DecidableEq, Repr

/-- The descriptor of an opcode byte: total on all 256 values (rule R98). -/
def describe (op : Byte) : Descriptor :=
  let i := decodeOp op 0 0
  { mnemonic := mnemonicOf op, mode := i.mode, opcodeClass := i.opcodeClass }

/-! ## Assembler text (rule R104) -/

/-- A hexadecimal digit in capitals. -/
def hexDigit (d : BitVec 4) : Char := ("0123456789ABCDEF".toList).getD d.toNat '0'

/-- A byte as two hexadecimal digits. -/
def hexByte (b : Byte) : String := String.ofList [hexDigit (b.extractLsb' 4 4), hexDigit (b.extractLsb' 0 4)]

/-- The bytes of an operand as a hexadecimal number: the last byte is the high one. -/
def hexBytes (bytes : List Byte) : String := bytes.foldl (fun text b => hexByte b ++ text) ""

/-- The operand in the form of rule R80's table. `next` is the address after the instruction, to which a branch offset
is relative. -/
def operandText (mode : Mode) (next : Word) (bytes : List Byte) : String :=
  let n := "$" ++ hexBytes bytes
  match mode with
  | .imp => ""
  | .acc => " A"
  | .imm => " #" ++ n
  | .zp => " " ++ n
  | .zpx => " " ++ n ++ ",X"
  | .zpy => " " ++ n ++ ",Y"
  | .abs => " " ++ n
  | .abx => " " ++ n ++ ",X"
  | .aby => " " ++ n ++ ",Y"
  | .izx => " (" ++ n ++ ",X)"
  | .izy => " (" ++ n ++ "),Y"
  | .ind => " (" ++ n ++ ")"
  | .rel =>
    let target := next + (bytes.headD 0).signExtend 16
    " $" ++ hexBytes [loByte target, hiByte target]

/-- The text of an instruction that stands at `pc` (rule R104): the mnemonic, then the operand. -/
def Instr.text (i : Instr) (pc : Word) : String :=
  mnemonicOf i.opcode ++ operandText i.mode (pc + BitVec.ofNat 16 i.mode.length) i.operandBytes

/-- The offset byte an assembler stores for a branch at `pc` to `target`, and none for a distance outside -128 to 127
(rule R104). -/
def branchOffset (pc target : Word) : Option Byte :=
  let d := target - (pc + 2)
  if -128 ≤ d.toInt ∧ d.toInt ≤ 127 then some (loByte d) else none

end Sys2Proof
end

