-- ==== Sys2Proof/Machine/HostLoops.lean ====
section
/-! DEFINITION. The two loops of the host's Scheduler over the hardware's steps (60_exceptions.md rules R314, R315, R317),
with the numbers `INIT_CEILING` and `ROM_REENTRY` of rule R5. The host is not part of the hardware (rule R1): no step of
the machine runs them, and their own data is not in State (rule R40; log entry 29). -/

namespace Sys2Proof.Machine

/-- `tick` repeatedly until a status is not 0 or `n` ticks have been made (rules R12, R314). -/
def ticksUntilStatus : Nat → State → Result
  | 0, s => .next s
  | n + 1, s =>
    match tick s with
    | .next t => if t.status = 0 then ticksUntilStatus n t else .next t
    | stop => stop

/-- The host's `init` with a ceiling (rule R314): both resets, then the init routine. -/
def hostInitWith (ceiling initAddress seed : Nat) (s : State) : Result :=
  ticksUntilStatus ceiling (cpuInit initAddress seed (chipInit s))

/-- The host's `init` (rule R314). -/
def hostInit (initAddress seed : Nat) (s : State) : Result := hostInitWith Config.initCeiling initAddress seed s

/-- The machine under the host's `play`: its state, the cycle budget the host keeps, and whether the frame's run has
ended (rule R315). -/
structure Playback where
  state : State
  budget : Rat
  finished : Bool
  deriving DecidableEq, Repr

/-- Whether a tick ends the frame (rules R315, R317): by its status, or by a PC in `ROM_REENTRY`. -/
def endsFrame (reentry : Word → Bool) (t : State) : Bool := t.status != 0 || reentry t.pc

/-- The budget after a tick (rule R315): a tick that returns a sentinel is not charged. -/
def charge (budget : Rat) (t : State) : Rat := if t.status = 0 then budget + (t.cycles : Rat) else budget

/-- The tick loop of rule R315, at most `n` ticks long: until the budget is above `clkRatio` or the frame ends. The
workarounds of rule R318 are host writes between ticks, and OPEN. -/
def playTicks (clkRatio : Rat) (reentry : Word → Bool) : Nat → Playback → Host.Outcome Playback Fault Refusal
  | 0, p => .next p
  | n + 1, p =>
    if p.finished || decide (clkRatio < p.budget) then .next p
    else
      match tick p.state with
      | .next t => playTicks clkRatio reentry n { state := t, budget := charge p.budget t, finished := endsFrame reentry t }
      | .fault f => .fault f
      | .refused r => .refused r

/-- Start of `play` on an expired frame counter (rules R315, R316). -/
def startFrame (playAddress : Word) (p : Playback) : Playback :=
  { p with state := reseed playAddress p.state, finished := false }

/-- The tick loop of one sample (rule R315): nothing when the frame has ended, else the loop and the budget carried
over. -/
def playSample (n : Nat) (p : Playback) : Host.Outcome Playback Fault Refusal :=
  if p.finished then .next p
  else
    match playTicks Config.dev.clkRatio Config.romReentry n p with
    | .next q => .next { q with budget := q.budget - Config.dev.clkRatio }
    | stop => stop

/-- `emulate` of one chip at its own base if it is active, nothing otherwise. -/
def emulateActive (i : ChipIndex) (s : State) : Result :=
  if chipActive s.chipCount i then emulate i (s.chip i).base s else .next s

/-- The state after a step that answered `r`, given to `f`. -/
def andThen (r : Result) (f : State → Result) : Result :=
  match r with
  | .next t => f t
  | stop => stop

/-- `emulate` of every active chip in ascending order (rules R315, R320); `State.mixedSample` is then the host's sample
before its output volume (rule R381). -/
def emulateAll (s : State) : Result :=
  andThen (andThen (emulateActive .chip0 s) (emulateActive .chip1)) (emulateActive .chip2)

end Sys2Proof.Machine
end

