-- ==== Sys2Proof/Tests/Slice0.lean ====
section
/-! SUPPORT. The model's own tests: decoding of words written from the encoding lists of the instruction rules,
vectors of 95_test_vectors.md, and a witness for the hypotheses of each statement. Expected results come from the
spec. -/

namespace Sys2Proof.Tests

open Sys2Proof.Machine Sys2Proof.Safety

/-! ## Helpers -/

/-- A state with these registers and memory cells, everything else as after reset and no other byte written. -/
def start (pc : Word) (a x y sp p : Byte) (cells : List (Word × Byte)) : State :=
  cells.foldl (fun s c => s.write c.1 c.2)
    { State.reset with a := a, x := x, y := y, sp := sp, p := p, pc := pc, mem := [] }

/-- The state with other parameters. -/
def under (params : Params) (s : State) : State := { s with params := params }

/-- One step of `s` answers a next state with these registers, status, store address and, where given, effective
address; IR is the opcode byte, and exactly the cells listed were written. -/
def ends (s : State) (a x y sp p : Byte) (pc : Word) (cells : List (Word × Byte)) (status : Byte) (storadd : Word)
    (addr : Option Word) : Bool :=
  match step s with
  | .next t =>
    decide (t.a = a ∧ t.x = x ∧ t.y = y ∧ t.sp = sp ∧ t.p = p ∧ t.pc = pc ∧ t.status = status ∧ t.storadd = storadd ∧
      t.ir = s.read s.pc ∧ t.mem = cells.foldl (fun m c => memInsert m c.1.toNat c.2) s.mem) &&
    match addr with
    | some d => decide (t.addr = d)
    | none => true
  | .fault _ => false
  | .refused _ => false

/-- Each word decodes to its instruction with nothing left over, and is that instruction's encoding. -/
def decodesTo : List (List Byte × Instr) → Bool
  | [] => true
  | (bytes, i) :: rest =>
    (match decode bytes with
    | .ok (j, left) => decide (j = i) && left.isEmpty
    | .error _ => false) && decide (encode i = bytes) && decodesTo rest

/-! ## Well-formedness: the one check (the class of the opcode byte), each ill-formed term refused by it -/

theorem test_illFormed_jam : ([.jam02, .jam12, .jam22, .jam32, .jam42, .jam52, .jam62, .jam72, .jam92, .jamB2, .jamD2,
    .jamF2] : List Instr).all (fun i => !i.wellFormed) = true := by decide
theorem test_illFormed_ane : ¬ WellFormed (.aneImm 0x00) := by decide
theorem test_illFormed_lxa : ¬ WellFormed (.lxaImm 0xFF) := by decide
theorem test_illFormed_sha_izy : ¬ WellFormed (.shaIzy 0x10) := by decide
theorem test_illFormed_sha_aby : ¬ WellFormed (.shaAby 0x1234) := by decide
theorem test_illFormed_shx : ¬ WellFormed (.shxAby 0x1234) := by decide
theorem test_illFormed_shy : ¬ WellFormed (.shyAbx 0x1234) := by decide
theorem test_illFormed_tas : ¬ WellFormed (.tasAby 0x1234) := by decide
theorem test_wellFormed_official : WellFormed (.ldaImm 0x42) := by decide
theorem test_wellFormed_undocumented : WellFormed (.laxIzy 0x42) := by decide

/-- Rules R99 and R109: 151 official opcode bytes, 86 undocumented ones, 19 refused ones. -/
theorem test_class_counts :
    ((List.range 256).map fun k => (decodeOp (BitVec.ofNat 8 k) 0 0).opcodeClass).count .official = 151 ∧
    ((List.range 256).map fun k => (decodeOp (BitVec.ofNat 8 k) 0 0).opcodeClass).count .undocumented = 86 ∧
    ((List.range 256).map fun k => (decodeOp (BitVec.ofNat 8 k) 0 0).opcodeClass).count .refused = 19 := by
  decide +kernel

/-- An operand byte that is missing is named. -/
theorem test_decode_short : (match decode [0xAD, 0x34] with | .ok _ => false | .error _ => true) = true := by decide

/-- Words bit by bit, `aaa`, `bbb`, `cc` of rule R81: `ORA #` is aaa 000, bbb 010, cc 01 (alu); `LDX zp,Y` is 101,
      101, 10
(shift/register); `PHP` is 000, 010, 00 (stack/flag); `BEQ` is 111, 100, 00 (control); `LAX (zp),Y` is 101, 100,
      11. -/
theorem test_decode_bits : decodesTo [
    ([0b00001001, 0b11000011], .oraImm 0xC3), ([0b10110110, 0b10000001], .ldxZpy 0x81), ([0b00001000], .php),
    ([0b11110000, 0b11111110], .beq 0xFE), ([0b10110011, 0b01000000], .laxIzy 0x40),
    ([0b01101100, 0b11111111, 0b00010010], .jmpInd 0x12FF)] = true := by decide

/-- The table's numbering: the second byte is bits 15 to 8, and the bits above `nbits` are 0. -/
theorem test_tableWord : decodeTableWord 24 0x1234AD = some (.ldaAbs 0x1234) ∧
    decodeTableWord 8 0x1234AD = some (.ldaAbs 0x0000) ∧ decodeTableWord 16 0x9ABD = some (.ldaAbx 0x009A) := by decide

/-- The word placed is the one the next step runs. -/
theorem test_withFetchWord : fetch (State.reset.withFetchWord 24 0xD41A8D) = .staAbs 0xD41A := by decide

/-! ## Assembler text (rule R104; the examples of rules R93, R91, R207, R95) -/

theorem test_text :
    (Instr.oraIzx 0x1F).text 0 = "ORA ($1F,X)" ∧ (Instr.ldaAbx 0xD41A).text 0 = "LDA $D41A,X" ∧
    (Instr.bne 0xFB).text 0x1005 = "BNE $1002" ∧ (Instr.jmpInd 0x12FF).text 0 = "JMP ($12FF)" := by decide
theorem test_branchOffset : branchOffset 0x1005 0x1002 = some 0xFB ∧ branchOffset 0x1000 0x1082 = none := by decide

/-- The families of rule R82 and a descriptor of rule R98. -/
theorem test_descriptor :
    familyOf 0x69 = .alu ∧ familyOf 0x6A = .shiftRegister ∧ familyOf 0x68 = .stackFlag ∧ familyOf 0x6C = .control ∧
    describe 0xB6 = { mnemonic := "LDX", mode := .zpy, opcodeClass := .official } := by decide

/-! ## Decoding: every constructor, its words written from the encoding list of its rule -/

/-- Encodings of rule R124. -/
theorem test_decode_ora_r124 : decodesTo [
    ([0x09, 0x9A], .oraImm 0x9A), ([0x05, 0x9A], .oraZp 0x9A), ([0x15, 0x9A], .oraZpx 0x9A),
     ([0x0D, 0x34, 0x12], .oraAbs 0x1234), ([0x1D, 0x34, 0x12], .oraAbx 0x1234),
     ([0x19, 0x34, 0x12], .oraAby 0x1234), ([0x01, 0x9A], .oraIzx 0x9A), ([0x11, 0x9A],
      .oraIzy 0x9A)] = true := by decide

/-- Encodings of rule R125. -/
theorem test_decode_and_r125 : decodesTo [
    ([0x29, 0x9A], .andImm 0x9A), ([0x25, 0x9A], .andZp 0x9A), ([0x35, 0x9A], .andZpx 0x9A),
     ([0x2D, 0x34, 0x12], .andAbs 0x1234), ([0x3D, 0x34, 0x12], .andAbx 0x1234),
     ([0x39, 0x34, 0x12], .andAby 0x1234), ([0x21, 0x9A], .andIzx 0x9A), ([0x31, 0x9A],
      .andIzy 0x9A)] = true := by decide

/-- Encodings of rule R126. -/
theorem test_decode_eor_r126 : decodesTo [
    ([0x49, 0x9A], .eorImm 0x9A), ([0x45, 0x9A], .eorZp 0x9A), ([0x55, 0x9A], .eorZpx 0x9A),
     ([0x4D, 0x34, 0x12], .eorAbs 0x1234), ([0x5D, 0x34, 0x12], .eorAbx 0x1234),
     ([0x59, 0x34, 0x12], .eorAby 0x1234), ([0x41, 0x9A], .eorIzx 0x9A), ([0x51, 0x9A],
      .eorIzy 0x9A)] = true := by decide

/-- Encodings of rule R127. -/
theorem test_decode_adc_r127 : decodesTo [
    ([0x69, 0x9A], .adcImm 0x9A), ([0x65, 0x9A], .adcZp 0x9A), ([0x75, 0x9A], .adcZpx 0x9A),
     ([0x6D, 0x34, 0x12], .adcAbs 0x1234), ([0x7D, 0x34, 0x12], .adcAbx 0x1234),
     ([0x79, 0x34, 0x12], .adcAby 0x1234), ([0x61, 0x9A], .adcIzx 0x9A), ([0x71, 0x9A],
      .adcIzy 0x9A)] = true := by decide

/-- Encodings of rule R128. -/
theorem test_decode_sta_r128 : decodesTo [
    ([0x85, 0x9A], .staZp 0x9A), ([0x95, 0x9A], .staZpx 0x9A), ([0x8D, 0x34, 0x12], .staAbs 0x1234),
     ([0x9D, 0x34, 0x12], .staAbx 0x1234), ([0x99, 0x34, 0x12], .staAby 0x1234), ([0x81, 0x9A], .staIzx 0x9A),
     ([0x91, 0x9A], .staIzy 0x9A)] = true := by decide

/-- Encodings of rule R129. -/
theorem test_decode_lda_r129 : decodesTo [
    ([0xA9, 0x9A], .ldaImm 0x9A), ([0xA5, 0x9A], .ldaZp 0x9A), ([0xB5, 0x9A], .ldaZpx 0x9A),
     ([0xAD, 0x34, 0x12], .ldaAbs 0x1234), ([0xBD, 0x34, 0x12], .ldaAbx 0x1234),
     ([0xB9, 0x34, 0x12], .ldaAby 0x1234), ([0xA1, 0x9A], .ldaIzx 0x9A), ([0xB1, 0x9A],
      .ldaIzy 0x9A)] = true := by decide

/-- Encodings of rule R130. -/
theorem test_decode_cmp_r130 : decodesTo [
    ([0xC9, 0x9A], .cmpImm 0x9A), ([0xC5, 0x9A], .cmpZp 0x9A), ([0xD5, 0x9A], .cmpZpx 0x9A),
     ([0xCD, 0x34, 0x12], .cmpAbs 0x1234), ([0xDD, 0x34, 0x12], .cmpAbx 0x1234),
     ([0xD9, 0x34, 0x12], .cmpAby 0x1234), ([0xC1, 0x9A], .cmpIzx 0x9A), ([0xD1, 0x9A],
      .cmpIzy 0x9A)] = true := by decide

/-- Encodings of rule R131. -/
theorem test_decode_sbc_r131 : decodesTo [
    ([0xE9, 0x9A], .sbcImm 0x9A), ([0xE5, 0x9A], .sbcZp 0x9A), ([0xF5, 0x9A], .sbcZpx 0x9A),
     ([0xED, 0x34, 0x12], .sbcAbs 0x1234), ([0xFD, 0x34, 0x12], .sbcAbx 0x1234),
     ([0xF9, 0x34, 0x12], .sbcAby 0x1234), ([0xE1, 0x9A], .sbcIzx 0x9A), ([0xF1, 0x9A],
      .sbcIzy 0x9A)] = true := by decide

/-- Encodings of rule R141. -/
theorem test_decode_asl_r141 : decodesTo [
    ([0x0A], .aslAcc), ([0x06, 0x9A], .aslZp 0x9A), ([0x16, 0x9A], .aslZpx 0x9A),
     ([0x0E, 0x34, 0x12], .aslAbs 0x1234), ([0x1E, 0x34, 0x12], .aslAbx 0x1234)] = true := by decide

/-- Encodings of rule R142. -/
theorem test_decode_rol_r142 : decodesTo [
    ([0x2A], .rolAcc), ([0x26, 0x9A], .rolZp 0x9A), ([0x36, 0x9A], .rolZpx 0x9A),
     ([0x2E, 0x34, 0x12], .rolAbs 0x1234), ([0x3E, 0x34, 0x12], .rolAbx 0x1234)] = true := by decide

/-- Encodings of rule R143. -/
theorem test_decode_lsr_r143 : decodesTo [
    ([0x4A], .lsrAcc), ([0x46, 0x9A], .lsrZp 0x9A), ([0x56, 0x9A], .lsrZpx 0x9A),
     ([0x4E, 0x34, 0x12], .lsrAbs 0x1234), ([0x5E, 0x34, 0x12], .lsrAbx 0x1234)] = true := by decide

/-- Encodings of rule R144. -/
theorem test_decode_ror_r144 : decodesTo [
    ([0x6A], .rorAcc), ([0x66, 0x9A], .rorZp 0x9A), ([0x76, 0x9A], .rorZpx 0x9A),
     ([0x6E, 0x34, 0x12], .rorAbs 0x1234), ([0x7E, 0x34, 0x12], .rorAbx 0x1234)] = true := by decide

/-- Encodings of rule R145. -/
theorem test_decode_stx_r145 : decodesTo [
    ([0x86, 0x9A], .stxZp 0x9A), ([0x96, 0x9A], .stxZpy 0x9A), ([0x8E, 0x34, 0x12],
      .stxAbs 0x1234)] = true := by decide

/-- Encodings of rule R146. -/
theorem test_decode_ldx_r146 : decodesTo [
    ([0xA2, 0x9A], .ldxImm 0x9A), ([0xA6, 0x9A], .ldxZp 0x9A), ([0xB6, 0x9A], .ldxZpy 0x9A),
     ([0xAE, 0x34, 0x12], .ldxAbs 0x1234), ([0xBE, 0x34, 0x12], .ldxAby 0x1234)] = true := by decide

/-- Encodings of rule R147. -/
theorem test_decode_dec_r147 : decodesTo [
    ([0xC6, 0x9A], .decZp 0x9A), ([0xD6, 0x9A], .decZpx 0x9A), ([0xCE, 0x34, 0x12], .decAbs 0x1234),
     ([0xDE, 0x34, 0x12], .decAbx 0x1234)] = true := by decide

/-- Encodings of rule R148. -/
theorem test_decode_inc_r148 : decodesTo [
    ([0xE6, 0x9A], .incZp 0x9A), ([0xF6, 0x9A], .incZpx 0x9A), ([0xEE, 0x34, 0x12], .incAbs 0x1234),
     ([0xFE, 0x34, 0x12], .incAbx 0x1234)] = true := by decide

/-- Encodings of rule R149. -/
theorem test_decode_txa_r149 : decodesTo [
    ([0x8A], .txa)] = true := by decide

/-- Encodings of rule R150. -/
theorem test_decode_tax_r150 : decodesTo [
    ([0xAA], .tax)] = true := by decide

/-- Encodings of rule R151. -/
theorem test_decode_txs_r151 : decodesTo [
    ([0x9A], .txs)] = true := by decide

/-- Encodings of rule R152. -/
theorem test_decode_tsx_r152 : decodesTo [
    ([0xBA], .tsx)] = true := by decide

/-- Encodings of rule R153. -/
theorem test_decode_dex_r153 : decodesTo [
    ([0xCA], .dex)] = true := by decide

/-- Encodings of rule R154. -/
theorem test_decode_nop_r154 : decodesTo [
    ([0xEA], .nop)] = true := by decide

/-- Encodings of rule R172. -/
theorem test_decode_php_r172 : decodesTo [
    ([0x08], .php)] = true := by decide

/-- Encodings of rule R173. -/
theorem test_decode_plp_r173 : decodesTo [
    ([0x28], .plp)] = true := by decide

/-- Encodings of rule R174. -/
theorem test_decode_pha_r174 : decodesTo [
    ([0x48], .pha)] = true := by decide

/-- Encodings of rule R175. -/
theorem test_decode_pla_r175 : decodesTo [
    ([0x68], .pla)] = true := by decide

/-- Encodings of rule R176. -/
theorem test_decode_dey_r176 : decodesTo [
    ([0x88], .dey)] = true := by decide

/-- Encodings of rule R177. -/
theorem test_decode_tay_r177 : decodesTo [
    ([0xA8], .tay)] = true := by decide

/-- Encodings of rule R178. -/
theorem test_decode_iny_r178 : decodesTo [
    ([0xC8], .iny)] = true := by decide

/-- Encodings of rule R179. -/
theorem test_decode_inx_r179 : decodesTo [
    ([0xE8], .inx)] = true := by decide

/-- Encodings of rule R180. -/
theorem test_decode_tya_r180 : decodesTo [
    ([0x98], .tya)] = true := by decide

/-- Encodings of rule R181. -/
theorem test_decode_clc_r181 : decodesTo [
    ([0x18], .clc)] = true := by decide

/-- Encodings of rule R182. -/
theorem test_decode_sec_r182 : decodesTo [
    ([0x38], .sec)] = true := by decide

/-- Encodings of rule R183. -/
theorem test_decode_cli_r183 : decodesTo [
    ([0x58], .cli)] = true := by decide

/-- Encodings of rule R184. -/
theorem test_decode_sei_r184 : decodesTo [
    ([0x78], .sei)] = true := by decide

/-- Encodings of rule R185. -/
theorem test_decode_clv_r185 : decodesTo [
    ([0xB8], .clv)] = true := by decide

/-- Encodings of rule R186. -/
theorem test_decode_cld_r186 : decodesTo [
    ([0xD8], .cld)] = true := by decide

/-- Encodings of rule R187. -/
theorem test_decode_sed_r187 : decodesTo [
    ([0xF8], .sed)] = true := by decide

/-- Encodings of rule R201. -/
theorem test_decode_bpl_r201 : decodesTo [
    ([0x10, 0x9A], .bpl 0x9A)] = true := by decide

/-- Encodings of rule R202. -/
theorem test_decode_bmi_r202 : decodesTo [
    ([0x30, 0x9A], .bmi 0x9A)] = true := by decide

/-- Encodings of rule R203. -/
theorem test_decode_bvc_r203 : decodesTo [
    ([0x50, 0x9A], .bvc 0x9A)] = true := by decide

/-- Encodings of rule R204. -/
theorem test_decode_bvs_r204 : decodesTo [
    ([0x70, 0x9A], .bvs 0x9A)] = true := by decide

/-- Encodings of rule R205. -/
theorem test_decode_bcc_r205 : decodesTo [
    ([0x90, 0x9A], .bcc 0x9A)] = true := by decide

/-- Encodings of rule R206. -/
theorem test_decode_bcs_r206 : decodesTo [
    ([0xB0, 0x9A], .bcs 0x9A)] = true := by decide

/-- Encodings of rule R207. -/
theorem test_decode_bne_r207 : decodesTo [
    ([0xD0, 0x9A], .bne 0x9A)] = true := by decide

/-- Encodings of rule R208. -/
theorem test_decode_beq_r208 : decodesTo [
    ([0xF0, 0x9A], .beq 0x9A)] = true := by decide

/-- Encodings of rule R209. -/
theorem test_decode_brk_r209 : decodesTo [
    ([0x00], .brk)] = true := by decide

/-- Encodings of rule R210. -/
theorem test_decode_jsr_r210 : decodesTo [
    ([0x20, 0x34, 0x12], .jsr 0x1234)] = true := by decide

/-- Encodings of rule R211. -/
theorem test_decode_rti_r211 : decodesTo [
    ([0x40], .rti)] = true := by decide

/-- Encodings of rule R212. -/
theorem test_decode_rts_r212 : decodesTo [
    ([0x60], .rts)] = true := by decide

/-- Encodings of rule R213. -/
theorem test_decode_jmp_r213 : decodesTo [
    ([0x4C, 0x34, 0x12], .jmpAbs 0x1234)] = true := by decide

/-- Encodings of rule R214. -/
theorem test_decode_jmp_r214 : decodesTo [
    ([0x6C, 0x34, 0x12], .jmpInd 0x1234)] = true := by decide

/-- Encodings of rule R215. -/
theorem test_decode_bit_r215 : decodesTo [
    ([0x24, 0x9A], .bitZp 0x9A), ([0x2C, 0x34, 0x12], .bitAbs 0x1234)] = true := by decide

/-- Encodings of rule R216. -/
theorem test_decode_sty_r216 : decodesTo [
    ([0x84, 0x9A], .styZp 0x9A), ([0x94, 0x9A], .styZpx 0x9A), ([0x8C, 0x34, 0x12],
      .styAbs 0x1234)] = true := by decide

/-- Encodings of rule R217. -/
theorem test_decode_ldy_r217 : decodesTo [
    ([0xA0, 0x9A], .ldyImm 0x9A), ([0xA4, 0x9A], .ldyZp 0x9A), ([0xB4, 0x9A], .ldyZpx 0x9A),
     ([0xAC, 0x34, 0x12], .ldyAbs 0x1234), ([0xBC, 0x34, 0x12], .ldyAbx 0x1234)] = true := by decide

/-- Encodings of rule R218. -/
theorem test_decode_cpy_r218 : decodesTo [
    ([0xC0, 0x9A], .cpyImm 0x9A), ([0xC4, 0x9A], .cpyZp 0x9A), ([0xCC, 0x34, 0x12],
      .cpyAbs 0x1234)] = true := by decide

/-- Encodings of rule R219. -/
theorem test_decode_cpx_r219 : decodesTo [
    ([0xE0, 0x9A], .cpxImm 0x9A), ([0xE4, 0x9A], .cpxZp 0x9A), ([0xEC, 0x34, 0x12],
      .cpxAbs 0x1234)] = true := by decide

/-- Encodings of rule R240. -/
theorem test_decode_slo_r240 : decodesTo [
    ([0x07, 0x9A], .sloZp 0x9A), ([0x17, 0x9A], .sloZpx 0x9A), ([0x0F, 0x34, 0x12], .sloAbs 0x1234),
     ([0x1F, 0x34, 0x12], .sloAbx 0x1234), ([0x1B, 0x34, 0x12], .sloAby 0x1234), ([0x03, 0x9A], .sloIzx 0x9A),
     ([0x13, 0x9A], .sloIzy 0x9A)] = true := by decide

/-- Encodings of rule R241. -/
theorem test_decode_rla_r241 : decodesTo [
    ([0x27, 0x9A], .rlaZp 0x9A), ([0x37, 0x9A], .rlaZpx 0x9A), ([0x2F, 0x34, 0x12], .rlaAbs 0x1234),
     ([0x3F, 0x34, 0x12], .rlaAbx 0x1234), ([0x3B, 0x34, 0x12], .rlaAby 0x1234), ([0x23, 0x9A], .rlaIzx 0x9A),
     ([0x33, 0x9A], .rlaIzy 0x9A)] = true := by decide

/-- Encodings of rule R242. -/
theorem test_decode_sre_r242 : decodesTo [
    ([0x47, 0x9A], .sreZp 0x9A), ([0x57, 0x9A], .sreZpx 0x9A), ([0x4F, 0x34, 0x12], .sreAbs 0x1234),
     ([0x5F, 0x34, 0x12], .sreAbx 0x1234), ([0x5B, 0x34, 0x12], .sreAby 0x1234), ([0x43, 0x9A], .sreIzx 0x9A),
     ([0x53, 0x9A], .sreIzy 0x9A)] = true := by decide

/-- Encodings of rule R243. -/
theorem test_decode_rra_r243 : decodesTo [
    ([0x67, 0x9A], .rraZp 0x9A), ([0x77, 0x9A], .rraZpx 0x9A), ([0x6F, 0x34, 0x12], .rraAbs 0x1234),
     ([0x7F, 0x34, 0x12], .rraAbx 0x1234), ([0x7B, 0x34, 0x12], .rraAby 0x1234), ([0x63, 0x9A], .rraIzx 0x9A),
     ([0x73, 0x9A], .rraIzy 0x9A)] = true := by decide

/-- Encodings of rule R246. -/
theorem test_decode_dcp_r246 : decodesTo [
    ([0xC7, 0x9A], .dcpZp 0x9A), ([0xD7, 0x9A], .dcpZpx 0x9A), ([0xCF, 0x34, 0x12], .dcpAbs 0x1234),
     ([0xDF, 0x34, 0x12], .dcpAbx 0x1234), ([0xDB, 0x34, 0x12], .dcpAby 0x1234), ([0xC3, 0x9A], .dcpIzx 0x9A),
     ([0xD3, 0x9A], .dcpIzy 0x9A)] = true := by decide

/-- Encodings of rule R247. -/
theorem test_decode_isc_r247 : decodesTo [
    ([0xE7, 0x9A], .iscZp 0x9A), ([0xF7, 0x9A], .iscZpx 0x9A), ([0xEF, 0x34, 0x12], .iscAbs 0x1234),
     ([0xFF, 0x34, 0x12], .iscAbx 0x1234), ([0xFB, 0x34, 0x12], .iscAby 0x1234), ([0xE3, 0x9A], .iscIzx 0x9A),
     ([0xF3, 0x9A], .iscIzy 0x9A)] = true := by decide

/-- Encodings of rule R244. -/
theorem test_decode_sax_r244 : decodesTo [
    ([0x87, 0x9A], .saxZp 0x9A), ([0x97, 0x9A], .saxZpy 0x9A), ([0x8F, 0x34, 0x12], .saxAbs 0x1234),
     ([0x83, 0x9A], .saxIzx 0x9A)] = true := by decide

/-- Encodings of rule R245. -/
theorem test_decode_lax_r245 : decodesTo [
    ([0xA7, 0x9A], .laxZp 0x9A), ([0xB7, 0x9A], .laxZpy 0x9A), ([0xAF, 0x34, 0x12], .laxAbs 0x1234),
     ([0xBF, 0x34, 0x12], .laxAby 0x1234), ([0xA3, 0x9A], .laxIzx 0x9A), ([0xB3, 0x9A],
      .laxIzy 0x9A)] = true := by decide

/-- Encodings of rule R248. -/
theorem test_decode_anc_r248 : decodesTo [
    ([0x0B, 0x9A], .ancImm0B 0x9A), ([0x2B, 0x9A], .ancImm2B 0x9A)] = true := by decide

/-- Encodings of rule R249. -/
theorem test_decode_alr_r249 : decodesTo [
    ([0x4B, 0x9A], .alrImm 0x9A)] = true := by decide

/-- Encodings of rule R250. -/
theorem test_decode_arr_r250 : decodesTo [
    ([0x6B, 0x9A], .arrImm 0x9A)] = true := by decide

/-- Encodings of rule R251. -/
theorem test_decode_sbx_r251 : decodesTo [
    ([0xCB, 0x9A], .sbxImm 0x9A)] = true := by decide

/-- Encodings of rule R252. -/
theorem test_decode_sbc_r252 : decodesTo [
    ([0xEB, 0x9A], .sbcImmEB 0x9A)] = true := by decide

/-- Encodings of rule R253. -/
theorem test_decode_las_r253 : decodesTo [
    ([0xBB, 0x34, 0x12], .lasAby 0x1234)] = true := by decide

/-- Encodings of rule R254. -/
theorem test_decode_nop_r254 : decodesTo [
    ([0x1A], .nop1A), ([0x3A], .nop3A), ([0x5A], .nop5A), ([0x7A], .nop7A), ([0xDA], .nopDA), ([0xFA],
      .nopFA)] = true := by decide

/-- Encodings of rule R255. -/
theorem test_decode_nop_r255 : decodesTo [
    ([0x80, 0x9A], .nopImm80 0x9A), ([0x82, 0x9A], .nopImm82 0x9A), ([0x89, 0x9A], .nopImm89 0x9A),
     ([0xC2, 0x9A], .nopImmC2 0x9A), ([0xE2, 0x9A], .nopImmE2 0x9A)] = true := by decide

/-- Encodings of rule R256. -/
theorem test_decode_nop_r256 : decodesTo [
    ([0x04, 0x9A], .nopZp04 0x9A), ([0x44, 0x9A], .nopZp44 0x9A), ([0x64, 0x9A], .nopZp64 0x9A),
     ([0x14, 0x9A], .nopZpx14 0x9A), ([0x34, 0x9A], .nopZpx34 0x9A), ([0x54, 0x9A], .nopZpx54 0x9A),
     ([0x74, 0x9A], .nopZpx74 0x9A), ([0xD4, 0x9A], .nopZpxD4 0x9A), ([0xF4, 0x9A], .nopZpxF4 0x9A),
     ([0x0C, 0x34, 0x12], .nopAbs0C 0x1234), ([0x1C, 0x34, 0x12], .nopAbx1C 0x1234),
     ([0x3C, 0x34, 0x12], .nopAbx3C 0x1234), ([0x5C, 0x34, 0x12], .nopAbx5C 0x1234),
     ([0x7C, 0x34, 0x12], .nopAbx7C 0x1234), ([0xDC, 0x34, 0x12], .nopAbxDC 0x1234),
     ([0xFC, 0x34, 0x12], .nopAbxFC 0x1234)] = true := by decide

/-- Encodings of rule R257. -/
theorem test_decode_ane_r257 : decodesTo [
    ([0x8B, 0x9A], .aneImm 0x9A)] = true := by decide

/-- Encodings of rule R258. -/
theorem test_decode_lxa_r258 : decodesTo [
    ([0xAB, 0x9A], .lxaImm 0x9A)] = true := by decide

/-- Encodings of rule R259. -/
theorem test_decode_sha_r259 : decodesTo [
    ([0x93, 0x9A], .shaIzy 0x9A), ([0x9F, 0x34, 0x12], .shaAby 0x1234)] = true := by decide

/-- Encodings of rule R260. -/
theorem test_decode_shx_r260 : decodesTo [
    ([0x9E, 0x34, 0x12], .shxAby 0x1234)] = true := by decide

/-- Encodings of rule R261. -/
theorem test_decode_shy_r261 : decodesTo [
    ([0x9C, 0x34, 0x12], .shyAbx 0x1234)] = true := by decide

/-- Encodings of rule R262. -/
theorem test_decode_tas_r262 : decodesTo [
    ([0x9B, 0x34, 0x12], .tasAby 0x1234)] = true := by decide

/-- Encodings of rule R263. -/
theorem test_decode_jam_r263 : decodesTo [
    ([0x02], .jam02), ([0x12], .jam12), ([0x22], .jam22), ([0x32], .jam32), ([0x42], .jam42), ([0x52], .jam52),
     ([0x62], .jam62), ([0x72], .jam72), ([0x92], .jam92), ([0xB2], .jamB2), ([0xD2], .jamD2), ([0xF2],
      .jamF2)] = true := by decide

/-! ## One step each: the derived vectors of the spec -/

/-- Vector VA2 of 95_test_vectors.md: `ADC #$00`. -/
theorem test_va2 : ends
    (start 0x1000 0x7F 0x00 0x00 0xFF 0x01 [(0x1000, 0x69), (0x1001, 0x00)])
    0x80 0x00 0x00 0xFF 0xC0 0x1002 [] 0x00 0x0000 (some 0x1001) = true := by decide

/-- Vector VA8 of 95_test_vectors.md: `ADC #$09`. -/
theorem test_va8 : ends
    (start 0x1000 0x09 0x00 0x00 0xFF 0x08 [(0x1000, 0x69), (0x1001, 0x09)])
    0x12 0x00 0x00 0xFF 0x08 0x1002 [] 0x00 0x0000 (some 0x1001) = true := by decide

/-- Vector VA11 of 95_test_vectors.md: `SBC #$01`. -/
theorem test_va11 : ends
    (start 0x1000 0x80 0x00 0x00 0xFF 0x01 [(0x1000, 0xE9), (0x1001, 0x01)])
    0x7F 0x00 0x00 0xFF 0x41 0x1002 [] 0x00 0x0000 (some 0x1001) = true := by decide

/-- Vector VA16 of 95_test_vectors.md: `SBC #$01`. -/
theorem test_va16 : ends
    (start 0x1000 0x10 0x00 0x00 0xFF 0x09 [(0x1000, 0xE9), (0x1001, 0x01)])
    0x0F 0x00 0x00 0xFF 0x09 0x1002 [] 0x00 0x0000 (some 0x1001) = true := by decide

/-- Vector VA18 of 95_test_vectors.md: `CMP #$01`. -/
theorem test_va18 : ends
    (start 0x1000 0x00 0x00 0x00 0xFF 0x00 [(0x1000, 0xC9), (0x1001, 0x01)])
    0x00 0x00 0x00 0xFF 0x80 0x1002 [] 0x00 0x0000 (some 0x1001) = true := by decide

/-- Vector VA19 of 95_test_vectors.md: `CMP #$01`. -/
theorem test_va19 : ends
    (start 0x1000 0x80 0x00 0x00 0xFF 0x40 [(0x1000, 0xC9), (0x1001, 0x01)])
    0x80 0x00 0x00 0xFF 0x41 0x1002 [] 0x00 0x0000 (some 0x1001) = true := by decide

/-- Vector VA21 of 95_test_vectors.md: `ORA #$00`. -/
theorem test_va21 : ends
    (start 0x1000 0x00 0x00 0x00 0xFF 0x80 [(0x1000, 0x09), (0x1001, 0x00)])
    0x00 0x00 0x00 0xFF 0x02 0x1002 [] 0x00 0x0000 (some 0x1001) = true := by decide

/-- Vector VA22 of 95_test_vectors.md: `AND #$0F`. -/
theorem test_va22 : ends
    (start 0x1000 0xF0 0x00 0x00 0xFF 0x00 [(0x1000, 0x29), (0x1001, 0x0F)])
    0x00 0x00 0x00 0xFF 0x02 0x1002 [] 0x00 0x0000 (some 0x1001) = true := by decide

/-- Vector VA23 of 95_test_vectors.md: `EOR #$FF`. -/
theorem test_va23 : ends
    (start 0x1000 0xAA 0x00 0x00 0xFF 0x00 [(0x1000, 0x49), (0x1001, 0xFF)])
    0x55 0x00 0x00 0xFF 0x00 0x1002 [] 0x00 0x0000 (some 0x1001) = true := by decide

/-- Vector VA24 of 95_test_vectors.md: `EOR #$AA`. -/
theorem test_va24 : ends
    (start 0x1000 0xAA 0x00 0x00 0xFF 0x00 [(0x1000, 0x49), (0x1001, 0xAA)])
    0x00 0x00 0x00 0xFF 0x02 0x1002 [] 0x00 0x0000 (some 0x1001) = true := by decide

/-- Vector VA25 of 95_test_vectors.md: `LDA #$00`. -/
theorem test_va25 : ends
    (start 0x1000 0x55 0x00 0x00 0xFF 0x80 [(0x1000, 0xA9), (0x1001, 0x00)])
    0x00 0x00 0x00 0xFF 0x02 0x1002 [] 0x00 0x0000 (some 0x1001) = true := by decide

/-- Vector VA26 of 95_test_vectors.md: `LDA $80`. -/
theorem test_va26 : ends
    (start 0x1000 0x00 0x00 0x00 0xFF 0x00 [(0x1000, 0xA5), (0x1001, 0x80), (0x0080, 0x9C)])
    0x9C 0x00 0x00 0xFF 0x80 0x1002 [] 0x00 0x0000 (some 0x0080) = true := by decide

/-- Vector VA27 of 95_test_vectors.md: `LDA $F0,X`. -/
theorem test_va27 : ends
    (start 0x1000 0x00 0x20 0x00 0xFF 0x00 [(0x1000, 0xB5), (0x1001, 0xF0), (0x0010, 0x11), (0x0110, 0x22)])
    0x11 0x20 0x00 0xFF 0x00 0x1002 [] 0x00 0x0000 (some 0x0010) = true := by decide

/-- Vector VA28 of 95_test_vectors.md: `LDA $F0,X`. -/
theorem test_va28 : ends
    (under { Params.decided with zpWrap := false } (start 0x1000 0x00 0x20 0x00 0xFF 0x00 [(0x1000, 0xB5), (0x1001,
      0xF0), (0x0010, 0x11), (0x0110, 0x22)]))
    0x22 0x20 0x00 0xFF 0x00 0x1002 [] 0x00 0x0000 (some 0x0110) = true := by decide

/-- Vector VA29 of 95_test_vectors.md: `LDA $12F0,X`. -/
theorem test_va29 : ends
    (start 0x1000 0x00 0x20 0x00 0xFF 0x00 [(0x1000, 0xBD), (0x1001, 0xF0), (0x1002, 0x12), (0x1310, 0x77)])
    0x77 0x20 0x00 0xFF 0x00 0x1003 [] 0x00 0x0000 (some 0x1310) = true := by decide

/-- Vector VA30 of 95_test_vectors.md: `LDA $FFF0,Y`. -/
theorem test_va30 : ends
    (start 0x1000 0x00 0x00 0x20 0xFF 0x00 [(0x1000, 0xB9), (0x1001, 0xF0), (0x1002, 0xFF), (0x0010, 0x33)])
    0x33 0x00 0x20 0xFF 0x00 0x1003 [] 0x00 0x0000 (some 0x0010) = true := by decide

/-- Vector VA31 of 95_test_vectors.md: `LDA ($F0,X)`. -/
theorem test_va31 : ends
    (start 0x1000 0x00 0x0F 0x00 0xFF 0x00 [(0x1000, 0xA1), (0x1001, 0xF0), (0x0000, 0x12), (0x00FF, 0x34),
      (0x0100, 0x99), (0x1234, 0x5A)])
    0x5A 0x0F 0x00 0xFF 0x00 0x1002 [] 0x00 0x0000 (some 0x1234) = true := by decide

/-- Vector VA32 of 95_test_vectors.md: `LDA ($F0,X)`. -/
theorem test_va32 : ends
    (under { Params.decided with zpWrap := false } (start 0x1000 0x00 0x0F 0x00 0xFF 0x00 [(0x1000, 0xA1), (0x1001,
      0xF0), (0x0000, 0x12), (0x00FF, 0x34), (0x0100, 0x99), (0x1234, 0x5A), (0x9934, 0xA5)]))
    0xA5 0x0F 0x00 0xFF 0x80 0x1002 [] 0x00 0x0000 (some 0x9934) = true := by decide

/-- Vector VA33 of 95_test_vectors.md: `LDA ($FF),Y`. -/
theorem test_va33 : ends
    (start 0x1000 0x00 0x00 0x10 0xFF 0x00 [(0x1000, 0xB1), (0x1001, 0xFF), (0x0000, 0x20), (0x00FF, 0xF8),
      (0x0100, 0x30), (0x2108, 0x42), (0x3108, 0x43)])
    0x42 0x00 0x10 0xFF 0x00 0x1002 [] 0x00 0x0000 (some 0x2108) = true := by decide

/-- Vector VA34 of 95_test_vectors.md: `LDA ($40),Y`. -/
theorem test_va34 : ends
    (start 0x1000 0x00 0x00 0x01 0xFF 0x00 [(0x1000, 0xB1), (0x1001, 0x40), (0x0000, 0x6B), (0x0040, 0xFF),
      (0x0041, 0xFF)])
    0x6B 0x00 0x01 0xFF 0x00 0x1002 [] 0x00 0x0000 (some 0x0000) = true := by decide

/-- Vector VA35 of 95_test_vectors.md: `STA $D418`. -/
theorem test_va35 : ends
    (start 0x1000 0x0F 0x00 0x00 0xFF 0x00 [(0x1000, 0x8D), (0x1001, 0x18), (0x1002, 0xD4)])
    0x0F 0x00 0x00 0xFF 0x00 0x1003 [(0xD418, 0x0F)] 0x00 0xD418 (some 0xD418) = true := by decide

/-- Vector VA36 of 95_test_vectors.md: `STA $FFFF,X`. -/
theorem test_va36 : ends
    (start 0x1000 0x77 0x02 0x00 0xFF 0x00 [(0x1000, 0x9D), (0x1001, 0xFF), (0x1002, 0xFF)])
    0x77 0x02 0x00 0xFF 0x00 0x1003 [(0x0001, 0x77)] 0x00 0x0001 (some 0x0001) = true := by decide

/-- Vector VA37 of 95_test_vectors.md: `STA ($20),Y`. -/
theorem test_va37 : ends
    (start 0x1000 0xAB 0x00 0x04 0xFF 0x00 [(0x1000, 0x91), (0x1001, 0x20), (0x0020, 0x00), (0x0021, 0xD4)])
    0xAB 0x00 0x04 0xFF 0x00 0x1002 [(0xD404, 0xAB)] 0x00 0xD404 (some 0xD404) = true := by decide

/-- Vector VA38 of 95_test_vectors.md: `STA $00`. -/
theorem test_va38 : ends
    (start 0x1000 0x01 0x00 0x00 0xFF 0x00 [(0x1000, 0x85), (0x1001, 0x00)])
    0x01 0x00 0x00 0xFF 0x00 0x1002 [(0x0000, 0x01)] 0x00 0x0000 (some 0x0000) = true := by decide

/-- Vector VA39 of 95_test_vectors.md: `STA $1002`. -/
theorem test_va39 : ends
    (start 0x1000 0x60 0x00 0x00 0xFF 0x00 [(0x1000, 0x8D), (0x1001, 0x02), (0x1002, 0x10)])
    0x60 0x00 0x00 0xFF 0x00 0x1003 [(0x1002, 0x60)] 0x00 0x1002 (some 0x1002) = true := by decide

/-- Vector VB1 of 95_test_vectors.md: `ASL A`. -/
theorem test_vb1 : ends
    (start 0x1000 0x80 0x00 0x00 0xFF 0x00 [(0x1000, 0x0A)])
    0x00 0x00 0x00 0xFF 0x03 0x1001 [] 0x00 0x0000 none = true := by decide

/-- Vector VB2 of 95_test_vectors.md: `ASL A`. -/
theorem test_vb2 : ends
    (start 0x1000 0x55 0x00 0x00 0xFF 0x01 [(0x1000, 0x0A)])
    0xAA 0x00 0x00 0xFF 0x80 0x1001 [] 0x00 0x0000 none = true := by decide

/-- Vector VB3 of 95_test_vectors.md: `ASL $10`. -/
theorem test_vb3 : ends
    (start 0x1000 0x00 0x00 0x00 0xFF 0x00 [(0x1000, 0x06), (0x1001, 0x10), (0x0010, 0xC1)])
    0x00 0x00 0x00 0xFF 0x81 0x1002 [(0x0010, 0x82)] 0x00 0x0000 (some 0x0010) = true := by decide

/-- Vector VB4 of 95_test_vectors.md: `LSR A`. -/
theorem test_vb4 : ends
    (start 0x1000 0x01 0x00 0x00 0xFF 0x80 [(0x1000, 0x4A)])
    0x00 0x00 0x00 0xFF 0x03 0x1001 [] 0x00 0x0000 none = true := by decide

/-- Vector VB5 of 95_test_vectors.md: `LSR $1234,X`. -/
theorem test_vb5 : ends
    (start 0x1000 0x00 0x01 0x00 0xFF 0x00 [(0x1000, 0x5E), (0x1001, 0x34), (0x1002, 0x12), (0x1235, 0xFE)])
    0x00 0x01 0x00 0xFF 0x00 0x1003 [(0x1235, 0x7F)] 0x00 0x0000 (some 0x1235) = true := by decide

/-- Vector VB6 of 95_test_vectors.md: `ROL A`. -/
theorem test_vb6 : ends
    (start 0x1000 0x80 0x00 0x00 0xFF 0x00 [(0x1000, 0x2A)])
    0x00 0x00 0x00 0xFF 0x03 0x1001 [] 0x00 0x0000 none = true := by decide

/-- Vector VB7 of 95_test_vectors.md: `ROL $10`. -/
theorem test_vb7 : ends
    (start 0x1000 0x00 0x00 0x00 0xFF 0x01 [(0x1000, 0x26), (0x1001, 0x10), (0x0010, 0x7F)])
    0x00 0x00 0x00 0xFF 0x80 0x1002 [(0x0010, 0xFF)] 0x00 0x0000 (some 0x0010) = true := by decide

/-- Vector VB8 of 95_test_vectors.md: `ROR A`. -/
theorem test_vb8 : ends
    (start 0x1000 0x01 0x00 0x00 0xFF 0x00 [(0x1000, 0x6A)])
    0x00 0x00 0x00 0xFF 0x03 0x1001 [] 0x00 0x0000 none = true := by decide

/-- Vector VB9 of 95_test_vectors.md: `ROR $10,X`. -/
theorem test_vb9 : ends
    (start 0x1000 0x00 0xF8 0x00 0xFF 0x01 [(0x1000, 0x76), (0x1001, 0x10), (0x0008, 0x00)])
    0x00 0xF8 0x00 0xFF 0x80 0x1002 [(0x0008, 0x80)] 0x00 0x0000 (some 0x0008) = true := by decide

/-- Vector VB10 of 95_test_vectors.md: `INC $10`. -/
theorem test_vb10 : ends
    (start 0x1000 0x00 0x00 0x00 0xFF 0x41 [(0x1000, 0xE6), (0x1001, 0x10), (0x0010, 0xFF)])
    0x00 0x00 0x00 0xFF 0x43 0x1002 [(0x0010, 0x00)] 0x00 0x0000 (some 0x0010) = true := by decide

/-- Vector VB11 of 95_test_vectors.md: `INC $10`. -/
theorem test_vb11 : ends
    (start 0x1000 0x00 0x00 0x00 0xFF 0x00 [(0x1000, 0xE6), (0x1001, 0x10), (0x0010, 0x7F)])
    0x00 0x00 0x00 0xFF 0x80 0x1002 [(0x0010, 0x80)] 0x00 0x0000 (some 0x0010) = true := by decide

/-- Vector VB12 of 95_test_vectors.md: `DEC $10`. -/
theorem test_vb12 : ends
    (start 0x1000 0x00 0x00 0x00 0xFF 0x00 [(0x1000, 0xC6), (0x1001, 0x10), (0x0010, 0x00)])
    0x00 0x00 0x00 0xFF 0x80 0x1002 [(0x0010, 0xFF)] 0x00 0x0000 (some 0x0010) = true := by decide

/-- Vector VB13 of 95_test_vectors.md: `DEC $2000,X`. -/
theorem test_vb13 : ends
    (start 0x1000 0x00 0xFF 0x00 0xFF 0x00 [(0x1000, 0xDE), (0x1001, 0x00), (0x1002, 0x20), (0x20FF, 0x01)])
    0x00 0xFF 0x00 0xFF 0x02 0x1003 [(0x20FF, 0x00)] 0x00 0x0000 (some 0x20FF) = true := by decide

/-- Vector VB14 of 95_test_vectors.md: `LDX #$80`. -/
theorem test_vb14 : ends
    (start 0x1000 0x00 0x00 0x00 0xFF 0x00 [(0x1000, 0xA2), (0x1001, 0x80)])
    0x00 0x80 0x00 0xFF 0x80 0x1002 [] 0x00 0x0000 (some 0x1001) = true := by decide

/-- Vector VB15 of 95_test_vectors.md: `LDX $F0,Y`. -/
theorem test_vb15 : ends
    (start 0x1000 0x00 0x00 0x11 0xFF 0x00 [(0x1000, 0xB6), (0x1001, 0xF0), (0x0001, 0x00)])
    0x00 0x00 0x11 0xFF 0x02 0x1002 [] 0x00 0x0000 (some 0x0001) = true := by decide

/-- Vector VB16 of 95_test_vectors.md: `LDX $12FF,Y`. -/
theorem test_vb16 : ends
    (start 0x1000 0x00 0x00 0x01 0xFF 0x00 [(0x1000, 0xBE), (0x1001, 0xFF), (0x1002, 0x12), (0x1300, 0x7F)])
    0x00 0x7F 0x01 0xFF 0x00 0x1003 [] 0x00 0x0000 (some 0x1300) = true := by decide

/-- Vector VB17 of 95_test_vectors.md: `STX $F0,Y`. -/
theorem test_vb17 : ends
    (start 0x1000 0x00 0x5A 0x20 0xFF 0x00 [(0x1000, 0x96), (0x1001, 0xF0)])
    0x00 0x5A 0x20 0xFF 0x00 0x1002 [(0x0010, 0x5A)] 0x00 0x0010 (some 0x0010) = true := by decide

/-- Vector VB18 of 95_test_vectors.md: `STX $D401`. -/
theorem test_vb18 : ends
    (start 0x1000 0x00 0x21 0x00 0xFF 0x00 [(0x1000, 0x8E), (0x1001, 0x01), (0x1002, 0xD4)])
    0x00 0x21 0x00 0xFF 0x00 0x1003 [(0xD401, 0x21)] 0x00 0xD401 (some 0xD401) = true := by decide

/-- Vector VB19 of 95_test_vectors.md: `TXA`. -/
theorem test_vb19 : ends
    (start 0x1000 0x55 0x00 0x00 0xFF 0x00 [(0x1000, 0x8A)])
    0x00 0x00 0x00 0xFF 0x02 0x1001 [] 0x00 0x0000 none = true := by decide

/-- Vector VB20 of 95_test_vectors.md: `TAX`. -/
theorem test_vb20 : ends
    (start 0x1000 0xFF 0x00 0x00 0xFF 0x00 [(0x1000, 0xAA)])
    0xFF 0xFF 0x00 0xFF 0x80 0x1001 [] 0x00 0x0000 none = true := by decide

/-- Vector VB21 of 95_test_vectors.md: `TXS`. -/
theorem test_vb21 : ends
    (start 0x1000 0x00 0x00 0x00 0xFF 0x00 [(0x1000, 0x9A)])
    0x00 0x00 0x00 0x00 0x00 0x1001 [] 0x00 0x0000 none = true := by decide

/-- Vector VB22 of 95_test_vectors.md: `TSX`. -/
theorem test_vb22 : ends
    (start 0x1000 0x00 0x00 0x00 0xFF 0x00 [(0x1000, 0xBA)])
    0x00 0xFF 0x00 0xFF 0x80 0x1001 [] 0x00 0x0000 none = true := by decide

/-- Vector VB23 of 95_test_vectors.md: `DEX`. -/
theorem test_vb23 : ends
    (start 0x1000 0x00 0x00 0x00 0xFF 0x01 [(0x1000, 0xCA)])
    0x00 0xFF 0x00 0xFF 0x81 0x1001 [] 0x00 0x0000 none = true := by decide

/-- Vector VB25 of 95_test_vectors.md: `NOP`. -/
theorem test_vb25 : ends
    (start 0x1000 0x00 0x00 0x00 0xFF 0xFF [(0x1000, 0xEA)])
    0x00 0x00 0x00 0xFF 0xFF 0x1001 [] 0x00 0x0000 none = true := by decide

/-- Vector VC1 of 95_test_vectors.md: `PHP`. -/
theorem test_vc1 : ends
    (start 0x1000 0x00 0x00 0x00 0xFF 0x00 [(0x1000, 0x08)])
    0x00 0x00 0x00 0xFE 0x00 0x1001 [(0x01FF, 0x30)] 0x00 0x0000 none = true := by decide

/-- Vector VC2 of 95_test_vectors.md: `PHP`. -/
theorem test_vc2 : ends
    (under { Params.decided with pushOrMask := 0x00 } (start 0x1000 0x00 0x00 0x00 0xFF 0x00 [(0x1000, 0x08)]))
    0x00 0x00 0x00 0xFE 0x00 0x1001 [(0x01FF, 0x00)] 0x00 0x0000 none = true := by decide

/-- Vector VC4 of 95_test_vectors.md: `PLP`. -/
theorem test_vc4 : ends
    (start 0x1000 0x00 0x00 0x00 0xFE 0x00 [(0x1000, 0x28), (0x01FF, 0xFF)])
    0x00 0x00 0x00 0xFF 0xFF 0x1001 [] 0x00 0x0000 none = true := by decide

/-- Vector VC5 of 95_test_vectors.md: `PLP`. -/
theorem test_vc5 : ends
    (start 0x1000 0x00 0x00 0x00 0xFF 0x01 [(0x1000, 0x28), (0x0100, 0x82)])
    0x00 0x00 0x00 0x00 0x82 0x1001 [] 0x00 0x0000 none = true := by decide

/-- Vector VC6 of 95_test_vectors.md: `PHA`. -/
theorem test_vc6 : ends
    (start 0x1000 0x42 0x00 0x00 0xFF 0x00 [(0x1000, 0x48)])
    0x42 0x00 0x00 0xFE 0x00 0x1001 [(0x01FF, 0x42)] 0x00 0x0000 none = true := by decide

/-- Vector VC7 of 95_test_vectors.md: `PLA`. -/
theorem test_vc7 : ends
    (start 0x1000 0x11 0x00 0x00 0xFE 0x00 [(0x1000, 0x68), (0x01FF, 0x00)])
    0x00 0x00 0x00 0xFF 0x02 0x1001 [] 0x00 0x0000 none = true := by decide

/-- Vector VC8 of 95_test_vectors.md: `PLA`. -/
theorem test_vc8 : ends
    (start 0x1000 0x00 0x00 0x00 0x10 0x00 [(0x1000, 0x68), (0x0111, 0x80)])
    0x80 0x00 0x00 0x11 0x80 0x1001 [] 0x00 0x0000 none = true := by decide

/-- Vector VC9 of 95_test_vectors.md: `DEY`. -/
theorem test_vc9 : ends
    (start 0x1000 0x00 0x00 0x00 0xFF 0x00 [(0x1000, 0x88)])
    0x00 0x00 0xFF 0xFF 0x80 0x1001 [] 0x00 0x0000 none = true := by decide

/-- Vector VC10 of 95_test_vectors.md: `TAY`. -/
theorem test_vc10 : ends
    (start 0x1000 0x00 0x00 0x55 0xFF 0x00 [(0x1000, 0xA8)])
    0x00 0x00 0x00 0xFF 0x02 0x1001 [] 0x00 0x0000 none = true := by decide

/-- Vector VC11 of 95_test_vectors.md: `INY`. -/
theorem test_vc11 : ends
    (start 0x1000 0x00 0x00 0xFF 0xFF 0x01 [(0x1000, 0xC8)])
    0x00 0x00 0x00 0xFF 0x03 0x1001 [] 0x00 0x0000 none = true := by decide

/-- Vector VC12 of 95_test_vectors.md: `INX`. -/
theorem test_vc12 : ends
    (start 0x1000 0x00 0x7F 0x00 0xFF 0x00 [(0x1000, 0xE8)])
    0x00 0x80 0x00 0xFF 0x80 0x1001 [] 0x00 0x0000 none = true := by decide

/-- Vector VC13 of 95_test_vectors.md: `TYA`. -/
theorem test_vc13 : ends
    (start 0x1000 0x00 0x00 0x80 0xFF 0x00 [(0x1000, 0x98)])
    0x80 0x00 0x80 0xFF 0x80 0x1001 [] 0x00 0x0000 none = true := by decide

/-- Vector VC14 of 95_test_vectors.md: `CLC`. -/
theorem test_vc14 : ends
    (start 0x1000 0x00 0x00 0x00 0xFF 0xFF [(0x1000, 0x18)])
    0x00 0x00 0x00 0xFF 0xFE 0x1001 [] 0x00 0x0000 none = true := by decide

/-- Vector VC15 of 95_test_vectors.md: `SEC`. -/
theorem test_vc15 : ends
    (start 0x1000 0x00 0x00 0x00 0xFF 0x00 [(0x1000, 0x38)])
    0x00 0x00 0x00 0xFF 0x01 0x1001 [] 0x00 0x0000 none = true := by decide

/-- Vector VC16 of 95_test_vectors.md: `CLI`. -/
theorem test_vc16 : ends
    (start 0x1000 0x00 0x00 0x00 0xFF 0xFF [(0x1000, 0x58)])
    0x00 0x00 0x00 0xFF 0xFB 0x1001 [] 0x00 0x0000 none = true := by decide

/-- Vector VC17 of 95_test_vectors.md: `SEI`. -/
theorem test_vc17 : ends
    (start 0x1000 0x00 0x00 0x00 0xFF 0x00 [(0x1000, 0x78)])
    0x00 0x00 0x00 0xFF 0x04 0x1001 [] 0x00 0x0000 none = true := by decide

/-- Vector VC18 of 95_test_vectors.md: `CLV`. -/
theorem test_vc18 : ends
    (start 0x1000 0x00 0x00 0x00 0xFF 0xFF [(0x1000, 0xB8)])
    0x00 0x00 0x00 0xFF 0xBF 0x1001 [] 0x00 0x0000 none = true := by decide

/-- Vector VC19 of 95_test_vectors.md: `CLD`. -/
theorem test_vc19 : ends
    (start 0x1000 0x00 0x00 0x00 0xFF 0xFF [(0x1000, 0xD8)])
    0x00 0x00 0x00 0xFF 0xF7 0x1001 [] 0x00 0x0000 none = true := by decide

/-- Vector VC20 of 95_test_vectors.md: `SED`. -/
theorem test_vc20 : ends
    (start 0x1000 0x00 0x00 0x00 0xFF 0x00 [(0x1000, 0xF8)])
    0x00 0x00 0x00 0xFF 0x08 0x1001 [] 0x00 0x0000 none = true := by decide

/-- Vector VD1 of 95_test_vectors.md: `BPL $1010`. -/
theorem test_vd1 : ends
    (start 0x1000 0x00 0x00 0x00 0xFF 0x00 [(0x1000, 0x10), (0x1001, 0x0E)])
    0x00 0x00 0x00 0xFF 0x00 0x1010 [] 0x00 0x0000 none = true := by decide

/-- Vector VD2 of 95_test_vectors.md: `BPL $1010`. -/
theorem test_vd2 : ends
    (start 0x1000 0x00 0x00 0x00 0xFF 0x80 [(0x1000, 0x10), (0x1001, 0x0E)])
    0x00 0x00 0x00 0xFF 0x80 0x1002 [] 0x00 0x0000 none = true := by decide

/-- Vector VD3 of 95_test_vectors.md: `BMI $0FF0`. -/
theorem test_vd3 : ends
    (start 0x1000 0x00 0x00 0x00 0xFF 0x80 [(0x1000, 0x30), (0x1001, 0xEE)])
    0x00 0x00 0x00 0xFF 0x80 0x0FF0 [] 0x00 0x0000 none = true := by decide

/-- Vector VD4 of 95_test_vectors.md: `BVC $2005`. -/
theorem test_vd4 : ends
    (start 0x2000 0x00 0x00 0x00 0xFF 0x00 [(0x2000, 0x50), (0x2001, 0x03)])
    0x00 0x00 0x00 0xFF 0x00 0x2005 [] 0x00 0x0000 none = true := by decide

/-- Vector VD5 of 95_test_vectors.md: `BVS $2005`. -/
theorem test_vd5 : ends
    (start 0x2000 0x00 0x00 0x00 0xFF 0x00 [(0x2000, 0x70), (0x2001, 0x03)])
    0x00 0x00 0x00 0xFF 0x00 0x2002 [] 0x00 0x0000 none = true := by decide

/-- Vector VD6 of 95_test_vectors.md: `BCC $1002`. -/
theorem test_vd6 : ends
    (start 0x1000 0x00 0x00 0x00 0xFF 0x00 [(0x1000, 0x90), (0x1001, 0x00)])
    0x00 0x00 0x00 0xFF 0x00 0x1002 [] 0x00 0x0000 none = true := by decide

/-- Vector VD7 of 95_test_vectors.md: `BCS $1081`. -/
theorem test_vd7 : ends
    (start 0x1000 0x00 0x00 0x00 0xFF 0x01 [(0x1000, 0xB0), (0x1001, 0x7F)])
    0x00 0x00 0x00 0xFF 0x01 0x1081 [] 0x00 0x0000 none = true := by decide

/-- Vector VD8 of 95_test_vectors.md: `BNE $1002`. -/
theorem test_vd8 : ends
    (start 0x1005 0x00 0x00 0x00 0xFF 0x00 [(0x1005, 0xD0), (0x1006, 0xFB)])
    0x00 0x00 0x00 0xFF 0x00 0x1002 [] 0x00 0x0000 none = true := by decide

/-- Vector VD9 of 95_test_vectors.md: `BEQ $0F82`. -/
theorem test_vd9 : ends
    (start 0x1000 0x00 0x00 0x00 0xFF 0x02 [(0x1000, 0xF0), (0x1001, 0x80)])
    0x00 0x00 0x00 0xFF 0x02 0x0F82 [] 0x00 0x0000 none = true := by decide

/-- Vector VD10 of 95_test_vectors.md: `BEQ $FFFE`. -/
theorem test_vd10 : ends
    (start 0xFFFE 0x00 0x00 0x00 0xFF 0x02 [(0xFFFE, 0xF0), (0xFFFF, 0xFE), (0xFFFE, 0xF0), (0xFFFF, 0xFE)])
    0x00 0x00 0x00 0xFF 0x02 0xFFFE [] 0x00 0x0000 none = true := by decide

/-- Vector VD11 of 95_test_vectors.md: `BNE *+$12`. -/
theorem test_vd11 : ends
    (start 0xFFFE 0x00 0x00 0x00 0xFF 0x00 [(0xFFFE, 0xD0), (0xFFFF, 0x10), (0xFFFE, 0xD0), (0xFFFF, 0x10)])
    0x00 0x00 0x00 0xFF 0x00 0x0010 [] 0x00 0x0000 none = true := by decide

/-- Vector VD12 of 95_test_vectors.md: `BRK`. -/
theorem test_vd12 : ends
    (start 0x1000 0x00 0x00 0x00 0xFF 0x00 [(0x1000, 0x00), (0xFFFE, 0x00), (0xFFFF, 0x20)])
    0x00 0x00 0x00 0xFC 0x04 0x2000 [(0x01FD, 0x30), (0x01FE, 0x02), (0x01FF,
      0x10)] 0x00 0x0000 none = true := by decide

/-- Vector VD13 of 95_test_vectors.md: `BRK`. -/
theorem test_vd13 : ends
    (start 0x1000 0x00 0x00 0x00 0x01 0xC1 [(0x1000, 0x00), (0xFFFE, 0x34), (0xFFFF, 0x12)])
    0x00 0x00 0x00 0xFE 0xC5 0x1234 [(0x0100, 0x02), (0x0101, 0x10), (0x01FF,
      0xF1)] 0x00 0x0000 none = true := by decide

/-- Vector VD15 of 95_test_vectors.md: `JSR $2000`. -/
theorem test_vd15 : ends
    (start 0x1000 0x00 0x00 0x00 0xFF 0x00 [(0x1000, 0x20), (0x1001, 0x00), (0x1002, 0x20)])
    0x00 0x00 0x00 0xFD 0x00 0x2000 [(0x01FE, 0x02), (0x01FF, 0x10)] 0x00 0x0000 none = true := by decide

/-- Vector VD16 of 95_test_vectors.md: `JSR $1234`. -/
theorem test_vd16 : ends
    (start 0x1000 0x00 0x00 0x00 0x00 0x00 [(0x1000, 0x20), (0x1001, 0x34), (0x1002, 0x12)])
    0x00 0x00 0x00 0xFE 0x00 0x1234 [(0x0100, 0x10), (0x01FF, 0x02)] 0x00 0x0000 none = true := by decide

/-- Vector VD18 of 95_test_vectors.md: `RTS`. -/
theorem test_vd18 : ends
    (start 0x1000 0x00 0x00 0x00 0xFD 0x00 [(0x1000, 0x60), (0x01FE, 0x02), (0x01FF, 0x10)])
    0x00 0x00 0x00 0xFF 0x00 0x1003 [] 0x00 0x0000 none = true := by decide

/-- Vector VD19 of 95_test_vectors.md: `RTS`. -/
theorem test_vd19 : ends
    (start 0x1000 0x00 0x00 0x00 0xFF 0x00 [(0x1000, 0x60)])
    0x00 0x00 0x00 0xFF 0x00 0x1000 [] 0xFF 0x0000 none = true := by decide

/-- Vector VD21 of 95_test_vectors.md: `RTI`. -/
theorem test_vd21 : ends
    (start 0x1000 0x00 0x00 0x00 0xFC 0x04 [(0x1000, 0x40), (0x01FD, 0x30), (0x01FE, 0x02), (0x01FF, 0x10)])
    0x00 0x00 0x00 0xFF 0x30 0x1002 [] 0x00 0x0000 none = true := by decide

/-- Vector VD22 of 95_test_vectors.md: `RTI`. -/
theorem test_vd22 : ends
    (start 0x1000 0x00 0x00 0x00 0xFF 0x04 [(0x1000, 0x40)])
    0x00 0x00 0x00 0xFF 0x04 0x1000 [] 0xFE 0x0000 none = true := by decide

/-- Vector VD23 of 95_test_vectors.md: `JMP $1234`. -/
theorem test_vd23 : ends
    (start 0x1000 0x00 0x00 0x00 0xFF 0x00 [(0x1000, 0x4C), (0x1001, 0x34), (0x1002, 0x12)])
    0x00 0x00 0x00 0xFF 0x00 0x1234 [] 0x00 0x0000 none = true := by decide

/-- Vector VD24 of 95_test_vectors.md: `JMP ($12FF)`. -/
theorem test_vd24 : ends
    (start 0x1000 0x00 0x00 0x00 0xFF 0x00 [(0x1000, 0x6C), (0x1001, 0xFF), (0x1002, 0x12), (0x1200, 0x56),
      (0x12FF, 0x34), (0x1300, 0x78)])
    0x00 0x00 0x00 0xFF 0x00 0x5634 [] 0x00 0x0000 none = true := by decide

/-- Vector VD25 of 95_test_vectors.md: `JMP ($12FF)`. -/
theorem test_vd25 : ends
    (under { Params.decided with jmpIndPageWrap := false } (start 0x1000 0x00 0x00 0x00 0xFF 0x00 [(0x1000, 0x6C),
      (0x1001, 0xFF), (0x1002, 0x12), (0x1200, 0x56), (0x12FF, 0x34), (0x1300, 0x78)]))
    0x00 0x00 0x00 0xFF 0x00 0x7834 [] 0x00 0x0000 none = true := by decide

/-- Vector VD27 of 95_test_vectors.md: `BIT $20`. -/
theorem test_vd27 : ends
    (start 0x1000 0x01 0x00 0x00 0xFF 0x00 [(0x1000, 0x24), (0x1001, 0x20), (0x0020, 0xC0)])
    0x01 0x00 0x00 0xFF 0xC2 0x1002 [] 0x00 0x0000 (some 0x0020) = true := by decide

/-- Vector VD28 of 95_test_vectors.md: `BIT $D41C`. -/
theorem test_vd28 : ends
    (start 0x1000 0xFF 0x00 0x00 0xFF 0xC2 [(0x1000, 0x2C), (0x1001, 0x1C), (0x1002, 0xD4), (0xD41C, 0x3F)])
    0xFF 0x00 0x00 0xFF 0x00 0x1003 [] 0x00 0x0000 (some 0xD41C) = true := by decide

/-- Vector VD29 of 95_test_vectors.md: `STY $D404`. -/
theorem test_vd29 : ends
    (start 0x1000 0x00 0x00 0x11 0xFF 0x00 [(0x1000, 0x8C), (0x1001, 0x04), (0x1002, 0xD4)])
    0x00 0x00 0x11 0xFF 0x00 0x1003 [(0xD404, 0x11)] 0x00 0xD404 (some 0xD404) = true := by decide

/-- Vector VD30 of 95_test_vectors.md: `STY $FF,X`. -/
theorem test_vd30 : ends
    (start 0x1000 0x00 0x02 0x22 0xFF 0x00 [(0x1000, 0x94), (0x1001, 0xFF)])
    0x00 0x02 0x22 0xFF 0x00 0x1002 [(0x0001, 0x22)] 0x00 0x0001 (some 0x0001) = true := by decide

/-- Vector VD31 of 95_test_vectors.md: `LDY #$00`. -/
theorem test_vd31 : ends
    (start 0x1000 0x00 0x00 0x01 0xFF 0x00 [(0x1000, 0xA0), (0x1001, 0x00)])
    0x00 0x00 0x00 0xFF 0x02 0x1002 [] 0x00 0x0000 (some 0x1001) = true := by decide

/-- Vector VD32 of 95_test_vectors.md: `LDY $10FF,X`. -/
theorem test_vd32 : ends
    (start 0x1000 0x00 0x01 0x00 0xFF 0x00 [(0x1000, 0xBC), (0x1001, 0xFF), (0x1002, 0x10), (0x1100, 0x90)])
    0x00 0x01 0x90 0xFF 0x80 0x1003 [] 0x00 0x0000 (some 0x1100) = true := by decide

/-- Vector VD33 of 95_test_vectors.md: `CPY #$20`. -/
theorem test_vd33 : ends
    (start 0x1000 0x00 0x00 0x10 0xFF 0x00 [(0x1000, 0xC0), (0x1001, 0x20)])
    0x00 0x00 0x10 0xFF 0x80 0x1002 [] 0x00 0x0000 (some 0x1001) = true := by decide

/-- Vector VD34 of 95_test_vectors.md: `CPX #$10`. -/
theorem test_vd34 : ends
    (start 0x1000 0x00 0x20 0x00 0xFF 0x00 [(0x1000, 0xE0), (0x1001, 0x10)])
    0x00 0x20 0x00 0xFF 0x01 0x1002 [] 0x00 0x0000 (some 0x1001) = true := by decide

/-- Vector VD35 of 95_test_vectors.md: `CPX $10`. -/
theorem test_vd35 : ends
    (start 0x1000 0x00 0x00 0x00 0xFF 0x00 [(0x1000, 0xE4), (0x1001, 0x10), (0x0010, 0x00)])
    0x00 0x00 0x00 0xFF 0x03 0x1002 [] 0x00 0x0000 (some 0x0010) = true := by decide

/-- Vector VE1 of 95_test_vectors.md: `SLO $10`. -/
theorem test_ve1 : ends
    (start 0x1000 0x01 0x00 0x00 0xFF 0x00 [(0x1000, 0x07), (0x1001, 0x10), (0x0010, 0x81)])
    0x03 0x00 0x00 0xFF 0x01 0x1002 [(0x0010, 0x02)] 0x00 0x0000 (some 0x0010) = true := by decide

/-- Vector VE2 of 95_test_vectors.md: `SLO ($20,X)`. -/
theorem test_ve2 : ends
    (start 0x1000 0x00 0x04 0x00 0xFF 0x00 [(0x1000, 0x03), (0x1001, 0x20), (0x0024, 0x00), (0x0025, 0x30),
      (0x3000, 0x80)])
    0x00 0x04 0x00 0xFF 0x03 0x1002 [(0x3000, 0x00)] 0x00 0x0000 (some 0x3000) = true := by decide

/-- Vector VE3 of 95_test_vectors.md: `RLA $10`. -/
theorem test_ve3 : ends
    (start 0x1000 0xFF 0x00 0x00 0xFF 0x01 [(0x1000, 0x27), (0x1001, 0x10), (0x0010, 0x40)])
    0x81 0x00 0x00 0xFF 0x80 0x1002 [(0x0010, 0x81)] 0x00 0x0000 (some 0x0010) = true := by decide

/-- Vector VE4 of 95_test_vectors.md: `RLA $2000,Y`. -/
theorem test_ve4 : ends
    (start 0x1000 0x0F 0x00 0x05 0xFF 0x00 [(0x1000, 0x3B), (0x1001, 0x00), (0x1002, 0x20), (0x2005, 0xF0)])
    0x00 0x00 0x05 0xFF 0x03 0x1003 [(0x2005, 0xE0)] 0x00 0x0000 (some 0x2005) = true := by decide

/-- Vector VE5 of 95_test_vectors.md: `SRE $10`. -/
theorem test_ve5 : ends
    (start 0x1000 0xFF 0x00 0x00 0xFF 0x00 [(0x1000, 0x47), (0x1001, 0x10), (0x0010, 0x03)])
    0xFE 0x00 0x00 0xFF 0x81 0x1002 [(0x0010, 0x01)] 0x00 0x0000 (some 0x0010) = true := by decide

/-- Vector VE6 of 95_test_vectors.md: `RRA $10`. -/
theorem test_ve6 : ends
    (start 0x1000 0x10 0x00 0x00 0xFF 0x00 [(0x1000, 0x67), (0x1001, 0x10), (0x0010, 0x03)])
    0x12 0x00 0x00 0xFF 0x00 0x1002 [(0x0010, 0x01)] 0x00 0x0000 (some 0x0010) = true := by decide

/-- Vector VE7 of 95_test_vectors.md: `RRA $10`. -/
theorem test_ve7 : ends
    (start 0x1000 0x7F 0x00 0x00 0xFF 0x01 [(0x1000, 0x67), (0x1001, 0x10), (0x0010, 0x02)])
    0x00 0x00 0x00 0xFF 0x03 0x1002 [(0x0010, 0x81)] 0x00 0x0000 (some 0x0010) = true := by decide

/-- Vector VE9 of 95_test_vectors.md: `SAX $10`. -/
theorem test_ve9 : ends
    (start 0x1000 0xF0 0x3C 0x00 0xFF 0x00 [(0x1000, 0x87), (0x1001, 0x10)])
    0xF0 0x3C 0x00 0xFF 0x00 0x1002 [(0x0010, 0x30)] 0x00 0x0010 (some 0x0010) = true := by decide

/-- Vector VE10 of 95_test_vectors.md: `SAX $F0,Y`. -/
theorem test_ve10 : ends
    (start 0x1000 0xFF 0x55 0x20 0xFF 0x82 [(0x1000, 0x97), (0x1001, 0xF0)])
    0xFF 0x55 0x20 0xFF 0x82 0x1002 [(0x0010, 0x55)] 0x00 0x0010 (some 0x0010) = true := by decide

/-- Vector VE11 of 95_test_vectors.md: `SAX ($10,X)`. -/
theorem test_ve11 : ends
    (start 0x1000 0x0F 0x0F 0x00 0xFF 0x00 [(0x1000, 0x83), (0x1001, 0x10), (0x001F, 0x18), (0x0020, 0xD4)])
    0x0F 0x0F 0x00 0xFF 0x00 0x1002 [(0xD418, 0x0F)] 0x00 0xD418 (some 0xD418) = true := by decide

/-- Vector VE12 of 95_test_vectors.md: `LAX $10`. -/
theorem test_ve12 : ends
    (start 0x1000 0x00 0x00 0x00 0xFF 0x00 [(0x1000, 0xA7), (0x1001, 0x10), (0x0010, 0x80)])
    0x80 0x80 0x00 0xFF 0x80 0x1002 [] 0x00 0x0000 (some 0x0010) = true := by decide

/-- Vector VE13 of 95_test_vectors.md: `LAX ($30),Y`. -/
theorem test_ve13 : ends
    (start 0x1000 0x00 0x00 0x02 0xFF 0x00 [(0x1000, 0xB3), (0x1001, 0x30), (0x0030, 0xFE), (0x0031, 0x20),
      (0x2100, 0x00)])
    0x00 0x00 0x02 0xFF 0x02 0x1002 [] 0x00 0x0000 (some 0x2100) = true := by decide

/-- Vector VE14 of 95_test_vectors.md: `LAX $2000,Y`. -/
theorem test_ve14 : ends
    (start 0x1000 0x00 0x00 0x01 0xFF 0x00 [(0x1000, 0xBF), (0x1001, 0x00), (0x1002, 0x20), (0x2001, 0x7F)])
    0x7F 0x7F 0x01 0xFF 0x00 0x1003 [] 0x00 0x0000 (some 0x2001) = true := by decide

/-- Vector VE15 of 95_test_vectors.md: `DCP $10`. -/
theorem test_ve15 : ends
    (start 0x1000 0x40 0x00 0x00 0xFF 0x00 [(0x1000, 0xC7), (0x1001, 0x10), (0x0010, 0x41)])
    0x40 0x00 0x00 0xFF 0x03 0x1002 [(0x0010, 0x40)] 0x00 0x0000 (some 0x0010) = true := by decide

/-- Vector VE16 of 95_test_vectors.md: `DCP $10`. -/
theorem test_ve16 : ends
    (start 0x1000 0x00 0x00 0x00 0xFF 0x00 [(0x1000, 0xC7), (0x1001, 0x10), (0x0010, 0x00)])
    0x00 0x00 0x00 0xFF 0x00 0x1002 [(0x0010, 0xFF)] 0x00 0x0000 (some 0x0010) = true := by decide

/-- Vector VE17 of 95_test_vectors.md: `ISC $10`. -/
theorem test_ve17 : ends
    (start 0x1000 0x20 0x00 0x00 0xFF 0x01 [(0x1000, 0xE7), (0x1001, 0x10), (0x0010, 0x0F)])
    0x10 0x00 0x00 0xFF 0x01 0x1002 [(0x0010, 0x10)] 0x00 0x0000 (some 0x0010) = true := by decide

/-- Vector VE18 of 95_test_vectors.md: `ISC $10`. -/
theorem test_ve18 : ends
    (start 0x1000 0x00 0x00 0x00 0xFF 0x01 [(0x1000, 0xE7), (0x1001, 0x10), (0x0010, 0xFF)])
    0x00 0x00 0x00 0xFF 0x03 0x1002 [(0x0010, 0x00)] 0x00 0x0000 (some 0x0010) = true := by decide

/-- Vector VE19 of 95_test_vectors.md: `ISC $1234,X`. -/
theorem test_ve19 : ends
    (start 0x1000 0x80 0x01 0x00 0xFF 0x00 [(0x1000, 0xFF), (0x1001, 0x34), (0x1002, 0x12), (0x1235, 0x00)])
    0x7E 0x01 0x00 0xFF 0x41 0x1003 [(0x1235, 0x01)] 0x00 0x0000 (some 0x1235) = true := by decide

/-- Vector VE20 of 95_test_vectors.md: `ANC #$80`. -/
theorem test_ve20 : ends
    (start 0x1000 0xFF 0x00 0x00 0xFF 0x00 [(0x1000, 0x0B), (0x1001, 0x80)])
    0x80 0x00 0x00 0xFF 0x81 0x1002 [] 0x00 0x0000 (some 0x1001) = true := by decide

/-- Vector VE21 of 95_test_vectors.md: `ANC #$7F`. -/
theorem test_ve21 : ends
    (start 0x1000 0xFF 0x00 0x00 0xFF 0x01 [(0x1000, 0x2B), (0x1001, 0x7F)])
    0x7F 0x00 0x00 0xFF 0x00 0x1002 [] 0x00 0x0000 (some 0x1001) = true := by decide

/-- Vector VE22 of 95_test_vectors.md: `ALR #$03`. -/
theorem test_ve22 : ends
    (start 0x1000 0xFF 0x00 0x00 0xFF 0x00 [(0x1000, 0x4B), (0x1001, 0x03)])
    0x01 0x00 0x00 0xFF 0x01 0x1002 [] 0x00 0x0000 (some 0x1001) = true := by decide

/-- Vector VE23 of 95_test_vectors.md: `ALR #$FE`. -/
theorem test_ve23 : ends
    (start 0x1000 0x01 0x00 0x00 0xFF 0x81 [(0x1000, 0x4B), (0x1001, 0xFE)])
    0x00 0x00 0x00 0xFF 0x02 0x1002 [] 0x00 0x0000 (some 0x1001) = true := by decide

/-- Vector VE24 of 95_test_vectors.md: `ARR #$FF`. -/
theorem test_ve24 : ends
    (start 0x1000 0xC0 0x00 0x00 0xFF 0x01 [(0x1000, 0x6B), (0x1001, 0xFF)])
    0xE0 0x00 0x00 0xFF 0x81 0x1002 [] 0x00 0x0000 (some 0x1001) = true := by decide

/-- Vector VE25 of 95_test_vectors.md: `ARR #$FF`. -/
theorem test_ve25 : ends
    (start 0x1000 0x80 0x00 0x00 0xFF 0x00 [(0x1000, 0x6B), (0x1001, 0xFF)])
    0x40 0x00 0x00 0xFF 0x41 0x1002 [] 0x00 0x0000 (some 0x1001) = true := by decide

/-- Vector VE28 of 95_test_vectors.md: `SBX #$01`. -/
theorem test_ve28 : ends
    (start 0x1000 0xFF 0x0F 0x00 0xFF 0x00 [(0x1000, 0xCB), (0x1001, 0x01)])
    0xFF 0x0E 0x00 0xFF 0x01 0x1002 [] 0x00 0x0000 (some 0x1001) = true := by decide

/-- Vector VE29 of 95_test_vectors.md: `SBX #$10`. -/
theorem test_ve29 : ends
    (start 0x1000 0x0F 0xF5 0x00 0xFF 0x41 [(0x1000, 0xCB), (0x1001, 0x10)])
    0x0F 0xF5 0x00 0xFF 0xC0 0x1002 [] 0x00 0x0000 (some 0x1001) = true := by decide

/-- Vector VE30 of 95_test_vectors.md: `SBC #$B0`. -/
theorem test_ve30 : ends
    (start 0x1000 0x50 0x00 0x00 0xFF 0x01 [(0x1000, 0xEB), (0x1001, 0xB0)])
    0xA0 0x00 0x00 0xFF 0xC0 0x1002 [] 0x00 0x0000 (some 0x1001) = true := by decide

/-- Vector VE31 of 95_test_vectors.md: `LAS $2000,Y`. -/
theorem test_ve31 : ends
    (start 0x1000 0x00 0x00 0x00 0x3F 0x00 [(0x1000, 0xBB), (0x1001, 0x00), (0x1002, 0x20), (0x2000, 0xF0)])
    0x30 0x30 0x00 0x30 0x00 0x1003 [] 0x00 0x0000 (some 0x2000) = true := by decide

/-- Vector VE32 of 95_test_vectors.md: `NOP`. -/
theorem test_ve32 : ends
    (start 0x1000 0x00 0x00 0x00 0xFF 0xFF [(0x1000, 0x1A)])
    0x00 0x00 0x00 0xFF 0xFF 0x1001 [] 0x00 0x0000 none = true := by decide

/-- Vector VE33 of 95_test_vectors.md: `NOP #$FF`. -/
theorem test_ve33 : ends
    (start 0x1000 0x00 0x00 0x00 0xFF 0x00 [(0x1000, 0x80), (0x1001, 0xFF)])
    0x00 0x00 0x00 0xFF 0x00 0x1002 [] 0x00 0x0000 (some 0x1001) = true := by decide

/-- Vector VE34 of 95_test_vectors.md: `NOP #$00`. -/
theorem test_ve34 : ends
    (start 0x1000 0x55 0x00 0x00 0xFF 0x00 [(0x1000, 0x89), (0x1001, 0x00)])
    0x55 0x00 0x00 0xFF 0x00 0x1002 [] 0x00 0x0000 (some 0x1001) = true := by decide

/-- Vector VE35 of 95_test_vectors.md: `NOP $1234`. -/
theorem test_ve35 : ends
    (start 0x1000 0x00 0x00 0x00 0xFF 0x00 [(0x1000, 0x0C), (0x1001, 0x34), (0x1002, 0x12), (0x1234, 0xFF)])
    0x00 0x00 0x00 0xFF 0x00 0x1003 [] 0x00 0x0000 (some 0x1234) = true := by decide

/-- Vector VE36 of 95_test_vectors.md: `NOP $12FF,X`. -/
theorem test_ve36 : ends
    (start 0x1000 0x00 0x01 0x00 0xFF 0x00 [(0x1000, 0x3C), (0x1001, 0xFF), (0x1002, 0x12), (0x1300, 0x00)])
    0x00 0x01 0x00 0xFF 0x00 0x1003 [] 0x00 0x0000 (some 0x1300) = true := by decide

/-- Vector VE37 of 95_test_vectors.md: `NOP $F0,X`. -/
theorem test_ve37 : ends
    (start 0x1000 0x00 0x20 0x00 0xFF 0x00 [(0x1000, 0x14), (0x1001, 0xF0), (0x0010, 0x00)])
    0x00 0x20 0x00 0xFF 0x00 0x1002 [] 0x00 0x0000 (some 0x0010) = true := by decide


/-! ## Stops -/

/-- Why a result is no next state, if it is none. -/
def refusal : Result → Option Refusal
  | .next _ => none
  | .fault _ => none
  | .refused r => some r

/-- X1 to X3 of 95_test_vectors.md: refused encodings. -/
theorem test_x1_jam : refusal (step (start 0x1000 0 0 0 0xFF 0 [(0x1000, 0x02)])) =
    some (.refusedEncoding "JAM") := by decide
theorem test_x2_lxa : refusal (step (start 0x1000 0 0 0 0xFF 0 [(0x1000, 0xAB), (0x1001, 0x00)])) =
    some (.refusedEncoding "LXA") := by decide
theorem test_x3_shx : refusal (step (start 0x1000 0 0 0 0xFF 0 [(0x1000, 0x9E), (0x1001, 0x00), (0x1002, 0x20)])) =
    some (.refusedEncoding "SHX") := by decide

/-- X5: `tick` before any `init` (rule R406). -/
theorem test_x5_tick_before_init : refusal (step { State.reset with cpuReady := false }) = some .tickBeforeInit := by decide

/-- The state after reset with these calls due. -/
def due (calls : List HostCall) : State := { State.reset with calls := calls }

/-- `emulate` before any `chip_init` (rule R406), and of a chip that is not active (rule R312). -/
theorem test_emulate_before_chipInit :
    refusal (step { due [.emulate .chip0 0xD400] with devReady := false }) = some .emulateBeforeChipInit := by decide
theorem test_emulate_not_active : refusal (step (due [.emulate .chip1 0xD420])) = some .chipNotActive := by decide

/-- X4: a jump to itself is defined. -/
theorem test_x4_jmp_self : ends (start 0x1000 0 0 0 0xFF 0 [(0x1000, 0x4C), (0x1001, 0x00), (0x1002, 0x10)])
    0 0 0 0xFF 0 0x1000 [] 0x00 0x0000 none = true := by decide

/-- Rule R64: an instruction that overwrites its own bytes was fetched before (VA39 stores into its third byte). -/
theorem test_fetch_sees_stores : fetch ((start 0x1005 0 0 0 0xFF 0 [(0x1005, 0xA2), (0x1006,
      0x00)]).write 0x1006 0x42) =
    .ldxImm 0x42 := by decide

/-! ## The sound device: the vectors DV2 to DV10 of the spec -/

/-- DV2 (candidate of rule R357): clockings 1, 15, 16, 17, 18, 19, 20, 24 of the noise register, and its output before
any clocking and after clockings 3 and 16. -/
theorem test_dv2_noise :
    [1, 15, 16, 17, 18, 19, 20,
      24].map (fun n => Nat.repeat (noiseShift (Config.candidate 1) false) n (0x7FFFF8 : BitVec 23)) =
      [0x7FFFF0, 0x7C0000, 0x780001, 0x700003, 0x600007, 0x40000F, 0x00001F, 0x0001F0] ∧
    [0, 3,
      16].map (fun n => Config.candidateNoiseOut (Nat.repeat (noiseShift (Config.candidate 1) false) n 0x7FFFF8)) =
      [0xFC00, 0xF800, 0x8100] := by decide +kernel

/-- Rule R357: the taps are exclusive-ored and shifted in at bit 0; under the test bit the candidate shifts a 1 in. -/
theorem test_noiseShift :
    noiseShift { Config.candidate 1 with noiseTaps := 0x000005 } false 0x400001 = 0x000003 ∧
    noiseShift { Config.candidate 1 with noiseTaps := 0x000005 } false 0x000005 = 0x00000A ∧
    noiseShift (Config.candidate 1) true 0x000000 = 0x000001 := by decide +kernel

/-- The encoding lists of rules R141 to R144, R147, R148, R240 to R243, R246, R247: the read-modify-write opcodes. -/
def rmwOpcodes : List Byte :=
  [0x06, 0x16, 0x0E, 0x1E, 0x26, 0x36, 0x2E, 0x3E, 0x46, 0x56, 0x4E, 0x5E, 0x66, 0x76, 0x6E, 0x7E] ++
  [0xC6, 0xD6, 0xCE, 0xDE, 0xE6, 0xF6, 0xEE, 0xFE] ++
  [0x07, 0x17, 0x0F, 0x1F, 0x1B, 0x03, 0x13, 0x27, 0x37, 0x2F, 0x3F, 0x3B, 0x23, 0x33] ++
  [0x47, 0x57, 0x4F, 0x5F, 0x5B, 0x43, 0x53, 0x67, 0x77, 0x6F, 0x7F, 0x7B, 0x63, 0x73] ++
  [0xC7, 0xD7, 0xCF, 0xDF, 0xDB, 0xC3, 0xD3, 0xE7, 0xF7, 0xEF, 0xFF, 0xFB, 0xE3, 0xF3]
theorem test_isRmw : ∀ op : Byte, isRmw op = decide (op ∈ rmwOpcodes) := by decide +kernel

/-- Rule R314: the host stops at the first status that is not 0, or at its ceiling. -/
theorem test_ticksUntilStatus :
    (match ticksUntilStatus 9 (start 0x1000 0 0 0 0xFF 0 [(0x1000, 0xEA), (0x1001, 0x60)]) with
      | .next t => decide (t.pc = 0x1001 ∧ t.status = 0xFF) | _ => false) = true ∧
    (match ticksUntilStatus 2 (start 0x1000 0 0 0 0xFF 0 [(0x1000, 0x4C), (0x1001, 0x00), (0x1002, 0x10)]) with
      | .next t => decide (t.pc = 0x1000 ∧ t.status = 0) | _ => false) = true := by decide +kernel

/-- Rules R315, R317: a status ends the frame without a charge, and so does a PC of the re-entry set. -/
theorem test_endsFrame :
    endsFrame (fun a => a == 0xEA31) { State.reset with pc := 0xEA31 } = true ∧
    endsFrame (fun a => a == 0xEA31) { State.reset with status := 0xFF } = true ∧
    endsFrame (fun a => a == 0xEA31) State.reset = false ∧
    charge 3 { State.reset with cycles := 4 } = 7 ∧
    charge 3 { State.reset with cycles := 4, status := 0xFF } = 3 := by decide +kernel

/-- DV3: the triangle without and with ring modulation. -/
theorem test_dv3_triangle :
    ([0x000000, 0x400000, 0x7FFFFF, 0x800000, 0xC00000, 0xFFFFFF] : List (BitVec 24)).map (triangle · false false) =
      [0x0000, 0x8000, 0xFFFF, 0xFFFF, 0x7FFF, 0x0000] ∧
    ([0x000000, 0x400000, 0x7FFFFF, 0x800000, 0xC00000, 0xFFFFFF] : List (BitVec 24)).map (triangle · true true) =
      [0xFFFF, 0x7FFF, 0x0000, 0x0000, 0x8000, 0xFFFF] := by decide

/-- The registers of a voice with this frequency, control, AD and SR. -/
def voice (freq : BitVec 16) (ctrl ad sr : Byte) : VoiceRegs where
  freq := freq
  pw := 0
  ctrl := ctrl
  ad := ad
  sr := sr

/-- DV4: the phase wraps at 2^24; the test bit forces it to zero. -/
theorem test_dv4_phase :
    nextPhase (Config.candidate 1) (voice 0x2000 0x00 0 0) false 0xFFF000 = 0x001000 ∧
      nextPhase (Config.candidate 1) (voice 0x2000 0x08 0 0) false 0xFFF000 = 0 := by decide +kernel

/-- Rule R352: a voice with the sync bit follows a rising MSB of the voice before. -/
theorem test_sync : nextPhase (Config.candidate 1) (voice 0x2000 0x02 0 0) true 0x1000 = 0 ∧
    nextPhase (Config.candidate 1) (voice 0x2000 0x02 0 0) false 0x1000 = 0x3000 := by decide +kernel

/-- DV5: no waveform selected, the output holds. -/
theorem test_dv5_hold (cfg : DevConfig) :
    (waveStep cfg .m6581 (voice 0x2000 0x00 0 0) false false { Channel.reset with prevwfout := 0x1234 }).ch.prevwfout =
      0x1234 := rfl

/-- The envelope counter, the attack flag, the hold-zero flag and the rate counter of a channel. -/
def envelope (c : Channel) : Nat × Bool × Bool × Rat := (c.envcnt.toNat, c.attack, c.holdzero, c.ratecnt)

/-- A channel in a given phase of the envelope. -/
def channel (env expcnt : Byte) (attack decaysustain : Bool) : Channel :=
  { Channel.reset with gate := decaysustain, attack := attack, decaysustain := decaysustain, holdzero := false,
                       envcnt := env, expcnt := expcnt }

/-- DV6 (candidate tables, `CLK_RATIO` 32): sample 1, the end of attack, a step of decay, the sustain level held. -/
theorem test_dv6_rising :
    envelope (envelopeStep (Config.candidate 32) (voice 0 0x21 0x11 0x80) Channel.reset) = (1, true, false, 0) ∧
    envelope (envelopeStep (Config.candidate 32) (voice 0 0x21 0x11 0x80) (channel 254 0 true true)) =
      (255, false, false, 0) ∧
    envelope (envelopeStep (Config.candidate 32) (voice 0 0x21 0x11 0x80) (channel 255 0 false true)) =
      (254, false, false, 0) ∧
    envelope (envelopeStep (Config.candidate 32) (voice 0 0x21 0x11 0x80) (channel 136 0 false true)) =
      (136, false, false, 0) := by decide +kernel

/-- DV6: the gate falls at sample 400; the last step of the release latches hold-zero. -/
theorem test_dv6_falling :
    envelope (envelopeStep (Config.candidate 32) (voice 0 0x20 0x11 0x80) (channel 136 0 false true)) =
      (132, false, false, 0) ∧
    envelope (envelopeStep (Config.candidate 32) (voice 0 0x20 0x11 0x80) (channel 4 29 false false)) =
      (0, false, true, 0) ∧
    envelope (envelopeStep (Config.candidate 32) (voice 0 0x20 0x11 0x80) (channel 4 28 false false)) =
      (4, false, false, 0) := by decide +kernel

/-- DV7: the release nibble went up on the sample of the rising edge, so the comparison is suppressed. -/
theorem test_dv7_delayBug :
    envelope (envelopeStep (Config.candidate 32) (voice 0 0x21 0x11 0x81) Channel.reset) = (0, true, false, 32) := by
  decide +kernel

/-- The candidate with another rate comparison: always reached, the rate counter left above its range. -/
def otherRate : DevConfig :=
  { Config.candidate 32 with rateRealisation := some fun i => { reached := true, ratecnt := i.before + 0x8001 } }

/-- Another rate comparison steps by the rate of rule R343, and the delay bug of rule R344 suppresses it too. -/
theorem test_rateRealisation :
    envelope (envelopeStep otherRate (voice 0 0x20 0x11 0x80) (channel 136 0 false true)) = (132, false, false, 1) ∧
    envelope (envelopeStep otherRate (voice 0 0x21 0x11 0x81) Channel.reset) = (0, true, false, 32) := by
  decide +kernel

/-- DV10 (candidate `CLK_RATIO`): attack at rate 0 steps by 3. -/
theorem test_dv10_attack :
    envelope (envelopeStep (Config.candidate (27368 / 1225)) (voice 0 0x11 0x00 0xF0) Channel.reset) = (3, true,
      false, 0) ∧
    envelope (envelopeStep (Config.candidate (27368 / 1225)) (voice 0 0x11 0x00 0xF0) (channel 252 0 true true)) =
      (255, false, false, 0) := by decide +kernel

/-- DV8: two steps of the filter with all three taps, and each tap alone. -/
theorem test_dv8_filter :
    filterStep (1 / 2) 1 0x70 0 0 256 = { lowpass := -64, bandpass := -128, filtout := -192 } ∧
    (filterStep (1 / 2) 1 0x10 0 0 256).filtout = -64 ∧ (filterStep (1 / 2) 1 0x20 0 0 256).filtout = 128 ∧
    (filterStep (1 / 2) 1 0x40 0 0 256).filtout = -256 ∧
    filterStep (1 / 2) 1 0x00 (-64) (-128) 0 = { lowpass := -80, bandpass := -32, filtout := 0 } := by decide +kernel

/-- DV9: one voice unfiltered at full level, and the attenuation of one, two and three equal chips. -/
theorem test_dv9_mixer :
    signal { Channel.reset with prevwfout := 0xFFFF, envcnt := 0xFF } = 8355585 / 256 ∧
    signal { Channel.reset with prevwfout := 0x0000, envcnt := 0xFF } = -32640 ∧
    mix (Config.candidate 1) 0x0F (8355585 / 256) 0 = 8355585 / 256 * 15 / 3145728 ∧
    ([ChipCount.one, .two, .three].map fun n => ({ State.reset with
      chipCount := n, chip0 := Chip.reset .m6581 0 5, chip1 := Chip.reset .m6581 0 5,
      chip2 := Chip.reset .m6581 0 5 } : State).mixedSample) = [5, 6, 6] := by decide +kernel

/-- Rule R331: the fields of a window, unused bits ignored. -/
theorem test_window :
    let r := readWindow (start 0 0 0 0 0 0 [(0xD407, 0x34), (0xD408, 0x12), (0xD409, 0x56), (0xD40A, 0xF7),
      (0xD40B, 0x41),
      (0xD40C, 0x9A), (0xD40D, 0xBC), (0xD415, 0xFD), (0xD416, 0x80), (0xD417, 0xF2), (0xD418, 0x8F)]) 0xD400
    r.voice1 = { freq := 0x1234, pw := 0x756, ctrl := 0x41, ad := 0x9A, sr := 0xBC } ∧ r.fc = 0x405 ∧
      r.filtered .voice1 = true ∧ r.filtered .voice0 = false ∧ r.disconnected .voice2 = true := by decide

/-- Rule R359: the index of a combination on the two models, the upper bit masked on the 6581 but for pulse and
triangle. -/
theorem test_combinedIndex (cfg : DevConfig) (h : ∀ c, cfg.combinedFolded c = false) :
    combinedIndex cfg .m6581 .pulseSaw 0xABC000 0 = 0x2BC ∧ combinedIndex cfg .m6581 .pulseTri 0xABC000 0 = 0xABC ∧
      combinedIndex cfg .m8580 .pulseSaw 0xABC000 0 = 0xABC := by
  simp [combinedIndex, h]

/-- Rule R44: `chip_init` zeroes the window of an active chip only. -/
theorem test_chipInit_window :
    (chipInit (start 0 0 0 0 0 0 [(0xD400, 0x11), (0xD41F, 0x22), (0xD420, 0x33)])).read 0xD400 = 0 ∧
    (chipInit (start 0 0 0 0 0 0 [(0xD400, 0x11), (0xD41F, 0x22), (0xD420, 0x33)])).read 0xD41F = 0 ∧
    (chipInit (start 0 0 0 0 0 0 [(0xD400, 0x11), (0xD41F, 0x22), (0xD420, 0x33)])).read 0xD420 = 0x33 := by decide

/-! ## Witnesses: for each statement with hypotheses, concrete values that meet them together, clause by clause -/

theorem witness_EncodeOfDecode : decode [0xA9, 0x42, 0x60] = .ok (.ldaImm 0x42, [0x60]) := rfl

theorem witness_StepRunsDecoded :
    ∃ s : State, s.calls = [] ∧ s.cpuReady = true ∧
      decode [s.read s.pc, s.read (s.pc + 1), s.read (s.pc + 2)] = .ok (.staAbs 0xD418, []) :=
  ⟨State.reset.withFetchWord 24 0xD4188D, rfl, rfl, rfl⟩

/-- The instruction at the top of memory, its operand at address 0. -/
theorem witness_StepRunsDecoded_wrap :
    ∃ s : State, s.pc = 0xFFFF ∧ s.calls = [] ∧ s.cpuReady = true ∧
      decode [s.read s.pc, s.read (s.pc + 1), s.read (s.pc + 2)] = .ok (.ldaImm 0x42, [0x00]) :=
  ⟨({ State.reset with pc := 0xFFFF } : State).withFetchWord 16 0x42A9, rfl, rfl, rfl, rfl⟩

theorem witness_AdmittedInstructionsComplete :
    WellFormed .brk ∧ WellFormed .rts ∧ State.reset.devReady = true ∧
      chipActive State.reset.chipCount .chip0 = true := by decide
theorem witness_AdmittedInstructionsComplete_last_chip :
    ({ State.reset with chipCount := .three } : State).devReady = true ∧ chipActive .three .chip2 = true := ⟨rfl, rfl⟩

theorem witness_RefusedInstructionsStop :
    (.jamF2, "JAM") ∈ refusedInstrs 0x00 0xFFFF ∧ (.tasAby 0xFFFF, "TAS") ∈ refusedInstrs 0x00 0xFFFF := by
  simp [refusedInstrs]

theorem witness_InitSetsCpu :
    (due [.init 0x11234 0x1FF, .tick]).calls = .init 0x11234 0x1FF :: [.tick] := rfl
theorem witness_ReseedSetsPcAndSpOnly :
    (due [.reseed 0x1003]).calls = .reseed 0x1003 :: [] := rfl

/-- The first and the last byte of the window, and the addresses beside it. -/
theorem witness_ChipInitResult :
    ∃ s : State,
      s.calls = .chipInit :: [] ∧ chipActive s.chipCount .chip0 = true ∧ (0 : Nat) < 0x20 ∧ (31 : Nat) < 0x20 ∧
      ∀ c ∈ ([0xD3FF, 0xD420] : List Word), ∀ i, chipActive s.chipCount i = true →
        ∀ k, k < 0x20 → c ≠ (s.chip i).base + BitVec.ofNat 16 k := by
  refine ⟨due [.chipInit], rfl, rfl, by decide, by decide, ?_⟩
  intro c hc i hi k hk
  simp only [List.mem_cons, List.not_mem_nil, or_false] at hc
  cases i
  · show c ≠ 0xD400 + BitVec.ofNat 16 k
    intro h
    have h' := congrArg BitVec.toNat h
    rcases hc with rfl | rfl <;> simp [BitVec.toNat_add] at h' <;> omega
  · cases hi
  · cases hi

theorem witness_ResetStateValues : chipActive State.reset.chipCount .chip0 = true := rfl

theorem witness_OtherHostCallsResult :
    (due [.writeMemory 0xFFFF 0x20]).calls = .writeMemory 0xFFFF 0x20 :: [] ∧
    (due [.setChipCount .three]).calls = .setChipCount .three :: [] ∧
    (due [.setChipBase .chip1 0xD500]).calls = .setChipBase .chip1 0xD500 :: [] ∧
    (due [.setChipModel .chip2 .m8580]).calls = .setChipModel .chip2 .m8580 :: [] ∧
    (due [.clearEnvelope .chip0 .voice1 true true false false]).calls =
      .clearEnvelope .chip0 .voice1 true true false false :: [] ∧
    (due [.tick]).calls = .tick :: [] ∧ State.reset.cpuReady = true ∧
    (due [.emulate .chip0 0xD400]).calls = .emulate .chip0 0xD400 :: [] ∧
    ChipIndex.chip0 ≠ .chip1 ∧ Voice.voice0 ≠ .voice1 := by decide

theorem channelInv_reset : ChannelInv Channel.reset :=
  ⟨by decide +kernel, by decide +kernel, by decide +kernel, by decide +kernel, rfl, fun _ => rfl⟩
theorem witness_StepKeepsInvariant :
    Inv (State.reset.withFetchWord 8 0xEA) ∧ ∃ t, step (State.reset.withFetchWord 8 0xEA) = .next t :=
  ⟨⟨by decide, by decide, by decide, by decide, ⟨channelInv_reset, channelInv_reset, channelInv_reset⟩,
    ⟨channelInv_reset, channelInv_reset, channelInv_reset⟩, ⟨channelInv_reset, channelInv_reset,
      channelInv_reset⟩⟩, _, rfl⟩
theorem witness_StepKeepsInvariant_emulate :
    Inv (due [.emulate .chip0 0xD400]) ∧ ∃ t, step (due [.emulate .chip0 0xD400]) = .next t :=
  ⟨⟨by decide, by decide, by decide, by decide, ⟨channelInv_reset, channelInv_reset, channelInv_reset⟩,
    ⟨channelInv_reset, channelInv_reset, channelInv_reset⟩, ⟨channelInv_reset, channelInv_reset,
      channelInv_reset⟩⟩, _, rfl⟩

/-- Each value of ZP_WRAP, at the end of the zero page. -/
theorem witness_PointerAddresses :
    ∃ s : State, s.params.zpWrap = true ∧ s.x = 0x01 ∧
      (0x0000 : Word).toNat = ((0xFF : Byte).toNat + s.x.toNat) % 0x100 ∧
      (0x0001 : Word).toNat = ((0xFF : Byte).toNat + s.x.toNat + 1) % 0x100 ∧ (0x00FF : Word).toNat = (0xFF : Byte).toNat ∧
      (0x0000 : Word).toNat = ((0xFF : Byte).toNat + 1) % 0x100 :=
  ⟨start 0 0 0x01 0 0xFF 0 [], rfl, rfl, rfl, rfl, rfl, rfl⟩
theorem witness_PointerAddresses_no_wrap :
    ∃ s : State, s.params.zpWrap = false ∧ s.x = 0xFF ∧ (0x01FE : Word).toNat = (0xFF : Byte).toNat + s.x.toNat ∧
      (0x01FF : Word).toNat = (0xFF : Byte).toNat + s.x.toNat + 1 ∧ (0x00FF : Word).toNat = (0xFF : Byte).toNat ∧
      (0x0100 : Word).toNat = (0xFF : Byte).toNat + 1 :=
  ⟨under { Params.decided with zpWrap := false } (start 0 0 0xFF 0 0xFF 0 []), rfl, rfl, rfl, rfl, rfl, rfl⟩

/-- Every list of forms that a statement ranges over has its forms. -/
theorem witness_forms (s : State) (b : Byte) (w : Word) :
    [(oraForms s b w).length, (andForms s b w).length, (eorForms s b w).length, (adcForms s b w).length,
      (ldaForms s b w).length, (cmpForms s b w).length, (sbcForms s b w).length, (staForms s b w).length] =
      [8, 8, 8, 8, 8, 8, 9, 7] ∧
    [(stxForms s b w).length, (styForms s b w).length, (saxForms s b w).length, (ldxForms s b w).length,
      (ldyForms s b w).length, (laxForms s b w).length, (cpxForms s b w).length, (cpyForms s b w).length,
      (bitForms s b w).length] = [3, 3, 4, 5, 5, 6, 3, 3, 2] ∧
    [(aslForms s b w).length, (rolForms s b w).length, (lsrForms s b w).length, (rorForms s b w).length,
      (decForms s b w).length, (incForms s b w).length] = [4, 4, 4, 4, 4, 4] ∧
    [(sloForms s b w).length, (rlaForms s b w).length, (sreForms s b w).length, (rraForms s b w).length,
      (dcpForms s b w).length, (iscForms s b w).length] = [7, 7, 7, 7, 7, 7] ∧
    [(nopForms s b w).length, nopAlone.length, (branches b).length, flagInstrs.length,
      (refusedInstrs b w).length] = [21, 7, 8, 7, 19] := ⟨rfl, rfl, rfl, rfl, rfl⟩

/-- An index register at both ends of its range. -/
theorem witness_CountRegisterResults :
    (0xFF : Byte).toNat = ((0x00 : Byte).toNat + 255) % 256 ∧ (0x00 : Byte).toNat = ((0xFF : Byte).toNat + 1) % 256 ∧
      (0x7F : Byte).toNat = ((0x80 : Byte).toNat + 255) % 256 ∧ (0x80 : Byte).toNat = ((0x7F : Byte).toNat + 1) % 256 := by
  decide

/-- The stack slots at both ends of the stack page (also those of PhpAndPlpResults). -/
theorem witness_PhaAndPlaResults :
    ((0x01FF : Word).toNat = 0x100 + (0xFF : Byte).toNat ∧ (0x0100 : Word).toNat = 0x100 + ((0xFF : Byte).toNat + 1) % 256) ∧
      ((0x0100 : Word).toNat = 0x100 + (0x00 : Byte).toNat ∧ (0x0101 : Word).toNat = 0x100 + ((0x00 : Byte).toNat + 1) % 256) := by
  decide
theorem witness_PhpAndPlpResults :
    (0x01FE : Word).toNat = 0x100 + (0xFE : Byte).toNat ∧ (0x01FF : Word).toNat = 0x100 + ((0xFE : Byte).toNat + 1) % 256 := by
  decide

/-- The largest distances both ways, and a target past the top of memory; taken and not taken. -/
theorem witness_BranchResults :
    (0x0F82 : Word) = BitVec.ofInt 16 (((0x1000 : Word).toNat : Int) + 2 + (0x80 : Byte).toInt) ∧
    (0x1081 : Word) = BitVec.ofInt 16 (((0x1000 : Word).toNat : Int) + 2 + (0x7F : Byte).toInt) ∧
    (0x0010 : Word) = BitVec.ofInt 16 (((0xFFFE : Word).toNat : Int) + 2 + (0x10 : Byte).toInt) ∧
    (.beq 0x80, 0xF0, .z, true) ∈ branches 0x80 ∧ (start 0x1000 0 0 0 0xFF 0x02 []).flag .z = true ∧
    (start 0x1000 0 0 0 0xFF 0x00 []).flag .z = false := by decide

theorem witness_RtiResult_RtsResult :
    (start 0x1000 0 0 0 0xFF 0 []).sp = 0xFF ∧ (start 0x1000 0 0 0 0xFE 0 []).sp ≠ 0xFF ∧
      (start 0x1000 0 0 0 0x00 0 []).sp ≠ 0xFF := by decide

/-- A pointer at the end of a page, for each value of JMP_IND_PAGE_WRAP, and at the top of memory. -/
theorem witness_JmpResults :
    (0x1200 : Word).toNat = (0x12FF : Word).toNat / 0x100 * 0x100 + ((0x12FF : Word).toNat + 1) % 0x100 ∧
    (0x1300 : Word).toNat = ((0x12FF : Word).toNat + 1) % 0x10000 ∧
    (0xFF00 : Word).toNat = (0xFFFF : Word).toNat / 0x100 * 0x100 + ((0xFFFF : Word).toNat + 1) % 0x100 ∧
    (0x0000 : Word).toNat = ((0xFFFF : Word).toNat + 1) % 0x10000 ∧ Params.decided.jmpIndPageWrap = true ∧
    ({ Params.decided with jmpIndPageWrap := false } : Params).jmpIndPageWrap = false := by decide

/-- VE1, VE3, VE5, VE6: the operand and the shifted byte. -/
theorem witness_ShiftThenLogicResults_RraResult :
    (Form.at (.sloZp 0x10) 0x07 (accZp 0x10) (start 0 0 0 0 0xFF 0 [(0x0010, 0x81)])).operand = 0x81 ∧
    (0x02 : Byte) = BitVec.ofNat 8 (2 * (0x81 : Byte).toNat) ∧
    (0x81 : Byte) = BitVec.ofNat 8 (2 * (0x40 : Byte).toNat + true.toNat) ∧
    (0x01 : Byte) = BitVec.ofNat 8 ((0x03 : Byte).toNat / 2) ∧
    (0x81 : Byte) = BitVec.ofNat 8 ((0x02 : Byte).toNat / 2 + 128 * true.toNat) := by decide
theorem witness_DcpAndIscResults :
    (0xFF : Byte) = BitVec.ofNat 8 ((0x00 : Byte).toNat + 255) ∧ (0x00 : Byte) = BitVec.ofNat 8 ((0xFF : Byte).toNat + 1) := by
  decide
theorem witness_AndImmediateResults :
    (0x01 : Byte) = BitVec.ofNat 8 (((0xFF : Byte) &&& 0x03).toNat / 2) ∧
    (0xE0 : Byte) = BitVec.ofNat 8 (((0xC0 : Byte) &&& 0xFF).toNat / 2 + 128 * true.toNat) := by decide
theorem witness_SbxAndLasResults :
    (0x0E : Byte) = BitVec.ofInt 8 ((((0xFF : Byte) &&& 0x0F).toNat : Int) - (0x01 : Byte).toNat) ∧
    (0xF5 : Byte) = BitVec.ofInt 8 ((((0x0F : Byte) &&& 0xF5).toNat : Int) - (0x10 : Byte).toNat) := by decide

/-- One instruction for each flag that does not write it. -/
theorem witness_FlagsAreWrittenOnlyAsListed :
    (∃ t, exec .nop State.reset = .next t) ∧ (∃ t, exec (.incZp 0x10) State.reset = .next t) ∧
    (∀ f, Instr.opcode .nop ∉ flagWriters f) ∧ Instr.opcode (.incZp 0x10) ∉ flagWriters .c ∧
    Instr.opcode (.incZp 0x10) ∉ flagWriters .v :=
  ⟨⟨_, rfl⟩, ⟨_, rfl⟩, by intro f; cases f <;> decide, by decide, by decide⟩

theorem witness_OnlyStoresReportAStoreAddress :
    (∃ t, exec (.incAbs 0x1234) State.reset = .next t) ∧ Instr.opcode (.incAbs 0x1234) ∉
      ([0x85, 0x95, 0x8D, 0x9D, 0x99, 0x81, 0x91, 0x86, 0x96, 0x8E, 0x84, 0x94, 0x8C, 0x87, 0x97, 0x8F,
      0x83] : List Byte) :=
  ⟨⟨_, rfl⟩, by decide⟩

/-- The three outcomes: RTS and RTI on the empty stack, RTS on a stack that is not empty. -/
theorem witness_StatusIsASentinelOnlyOnEmptyReturns :
    State.reset.params.sentinelRts ≠ 0 ∧ State.reset.params.sentinelRti ≠ 0 ∧ State.reset.sp = 0xFF := by decide
theorem witness_StatusIsASentinel_rts : ∃ t, exec .rts State.reset = .next t :=
  by simp only [exec, execRts]; exact returnOp_completes _ _ _ _
theorem witness_StatusIsASentinel_rti : ∃ t, exec .rti State.reset = .next t :=
  by simp only [exec, execRti]; exact returnOp_completes _ _ _ _
theorem witness_StatusIsASentinel_rts_not_empty : ∃ t, exec .rts { State.reset with sp := 0xFD } = .next t :=
  by simp only [exec, execRts]; exact returnOp_completes _ _ _ _

/-- Two states that differ only in what a program cannot see. -/
theorem witness_ProgramsCannotSeeTheDevice :
    visible State.reset = visible { State.reset with chip0 := Chip.reset .m8580 0xD500 1, draws := 7, cycles := 3 } ∧
      State.reset ≠ { State.reset with chip0 := Chip.reset .m8580 0xD500 1, draws := 7, cycles := 3 } :=
  ⟨rfl, fun h => absurd (congrArg State.draws h) (by decide)⟩

theorem witness_InstructionsLeaveTheDeviceAlone : ∃ t, exec (.staAbs 0xD404) State.reset = .next t := ⟨_, rfl⟩

theorem witness_EmulateFrame :
    State.reset.devReady = true ∧ chipActive State.reset.chipCount .chip0 = true ∧ ChipIndex.chip1 ≠ .chip0 ∧
    (∀ c ∈ ([0xD418, 0xD41D] : List Word),
      c ≠ 0xD400 + 0x19 ∧ c ≠ 0xD400 + 0x1A ∧ c ≠ 0xD400 + 0x1B ∧ c ≠ 0xD400 + 0x1C) :=
  ⟨rfl, rfl, by decide, by simp⟩

/-- A rising gate, a falling gate, and a closed gate in hold-zero. -/
theorem witness_EnvelopeIsMonotone :
    (gateEdge (voice 0 0x21 0x11 0x80) Channel.reset).attack = true ∧
    (gateEdge (voice 0 0x20 0x11 0x80) (channel 136 0 false true)).attack = false ∧
    Channel.reset.holdzero = true ∧ Channel.reset.envcnt = 0 ∧
    ¬ ((voice 0 0x20 0x11 0x80).ctrl.getLsbD 0 = true ∧ Channel.reset.gate = false) := by decide

theorem witness_GateEdgesAndDelayBug :
    ((voice 0 0x21 0x11 0x81).ctrl.getLsbD 0 = true ∧
      Channel.reset.gate = false ∧ Channel.reset.prevSR.toNat % 16 < (voice 0 0x21 0x11 0x81).sr.toNat % 16 ∧
      Channel.reset.ratecnt + (Config.candidate 32).clkRatio < 0x8000) ∧
    ((voice 0 0x20 0x11 0x81).ctrl.getLsbD 0 = false ∧ (channel 5 0 false true).gate = true) ∧
    (voice 0 0x20 0x11 0x81).ctrl.getLsbD 0 = Channel.reset.gate :=   ⟨⟨by decide, rfl, by decide,
      by decide +kernel⟩, by decide, by decide⟩

theorem witness_PhaseAccumulatorAdvance :
    (voice 0 0x08 0 0).ctrl.getLsbD 3 = true ∧
    ((voice 0 0x02 0 0).ctrl.getLsbD 3 = false ∧ (voice 0 0x02 0 0).ctrl.getLsbD 1 = true) ∧
    ((voice 0 0x00 0 0).ctrl.getLsbD 3 = false ∧ ¬ ((voice 0 0x00 0 0).ctrl.getLsbD 1 = true ∧ true = true)) := by decide

theorem witness_NoWaveformHolds : hiNibble (voice 0 0x01 0 0).ctrl = 0 := by decide

/-- The triangle at the fold, without and with ring modulation. -/
theorem witness_TriangleIsTheFoldedPhase :
    hiNibble (voice 0 0x10 0 0).ctrl = 0b0001 ∧ hiNibble (voice 0 0x14 0 0).ctrl = 0b0001 ∧
    ¬ ((voice 0 0x10 0 0).ctrl.getLsbD 2 = true ∧ true = true) ∧ ((voice 0 0x14 0 0).ctrl.getLsbD 2 = true ∧ true = true) ∧
    (0x7FFFFF : Nat) = (0x7FFFFF : BitVec 24).toNat ∧ (0x000000 : Nat) = ((0x800000 : BitVec 24).toNat + 0x800000) % 0x1000000 := by
  decide

theorem witness_ClosedGatesAreSilent :
    Silent State.reset.chip0 ∧
      ∀ v, ((readWindow State.reset 0xD400).voice v).ctrl.getLsbD 0 = false := by
  refine ⟨⟨?_, rfl, rfl⟩, ?_⟩
  · intro ch hch
    simp only [State.reset, Chip.reset, List.mem_cons, List.not_mem_nil, or_false, or_self] at hch
    subst hch
    decide
  · intro v
    cases v <;> decide

end Sys2Proof.Tests
end

