-- ==== Sys2Proof/Proofs/Scope.lean ====
section
/-! PROOFS. The step of the machine (00_scope.md rules R9, R10): it runs the instruction that the bytes at PC decode to,
and every admitted instruction has a next state. -/

namespace Sys2Proof

/-- Three bytes always decode: a cell of the map does not see the bytes it does not take, and leaves them (rule R80). -/
theorem decode_three (op b1 b2 : Byte) :
    decode [op, b1, b2] = .ok (decodeOp op b1 b2, [b1, b2].drop (cellOf op).operandBytes) := by
  cases hc : cellOf op with
  | alone | withByte | withWord => simp [decode, decodeOp, hc, Cell.operandBytes, Cell.fill]

end Sys2Proof

namespace Sys2Proof.Machine

/-- With no host call due and `init` done, a step runs the instruction at PC. -/
theorem step_eq_exec_fetch {s : State} (hcalls : s.calls = []) (hready : s.cpuReady = true) :
    step s = exec (fetch s) s :=
  (step_eq_tick hcalls).trans (tick_eq_exec hready)

/-- What the three bytes at PC decode to is the instruction at PC. -/
theorem fetch_eq_of_decode {s : State} {i : Instr} {rest : List Byte}
    (h : decode [s.read s.pc, s.read (s.pc + 1), s.read (s.pc + 2)] = .ok (i, rest)) : fetch s = i := by
  rw [decode_three] at h
  cases h
  rfl

/-- Rule R10: a well-formed instruction always has a next state. The refused encodings are not well formed, the two
returns depend on the stack pointer, and every other arm of `exec` is a shape that answers `.next` outright. -/
theorem exec_completes {i : Instr} (hw : WellFormed i) (s : State) : ∃ t, exec i s = .next t := by
  cases i with
  | jam02 | jam12 | jam22 | jam32 | jam42 | jam52 | jam62 | jam72 | jam92 | jamB2 | jamD2 | jamF2
  | aneImm | lxaImm | shaIzy | shaAby | shxAby | shyAbx | tasAby => cases hw
  | rti | rts => exact returnOp_completes _ _ _ s
  | _ => exact ⟨_, rfl⟩

end Sys2Proof.Machine

open Sys2Proof Sys2Proof.Machine

/-- Settles O5: the step is the fetched instruction, and that is the decoded one. -/
theorem stepRunsDecoded : Obligations.StepRunsDecoded := by
  intro s i rest hcalls hready hdecode
  rw [step_eq_exec_fetch hcalls hready, fetch_eq_of_decode hdecode]

/-- Settles O6, by the cases of the instruction and the guard of `emulate`. -/
theorem admittedInstructionsComplete : Obligations.AdmittedInstructionsComplete :=
  ⟨fun _ s hw => exec_completes hw s, fun _ _ _ hready hactive => ⟨_, emulate_next hready hactive⟩⟩

end

