-- ==== Sys2Proof/Proofs/State.lean ====
section
/-! PROOFS. The state of the block (10_state.md): what no instruction can see or change, what the host's reset calls
leave, and the invariant that every step keeps. -/

namespace Sys2Proof.Safety

open Sys2Proof.Machine

/-! ## Operations on the CPU's part of the state

An instruction reads and writes registers and memory, and sets the outputs. `CpuOp` says so of a function of the state;
it is closed under composition and under a choice made from the visible part, so it passes from the operations of
Machine/Ops.lean to the shapes of instruction and from these to every instruction. -/

/-- The state `d` with the visible part `v`. -/
def withVisible (d : State) (v : Visible) : State :=
  { d with a := v.a, x := v.x, y := v.y, sp := v.sp, pc := v.pc, p := v.p, mem := v.mem, params := v.params }

@[simp] theorem withVisible_visible (s : State) : withVisible s (visible s) = s := rfl

/-- `g` depends on the visible part of the state only. -/
def Seen {α : Type} (g : State → α) : Prop := ∀ s d, g (withVisible d (visible s)) = g s

theorem Seen.congr {α : Type} {g : State → α} (h : Seen g) {s s' : State} (hv : visible s = visible s') :
    g s = g s' := by
  have hs := h s s'
  rw [hv, withVisible_visible] at hs
  exact hs.symm

/-- The byte at an address that is seen is seen. -/
theorem seen_read_ea {acc : State → Access} (hacc : Seen acc) : Seen fun s => s.read (acc s).ea := fun s d => by
  show (withVisible d (visible s)).read (acc (withVisible d (visible s))).ea = _
  rw [hacc s d]
  rfl

/-- `f` works on the registers and memory: what it leaves there depends on the visible part only, it keeps everything
else but the outputs, and it keeps memory in canonical form. -/
structure CpuOp (f : State → State) : Prop where
  seen : Seen fun s => visible (f s)
  frame : ∀ s, Elsewhere s (f s)
  canonical : ∀ s, memWf s.mem = true → memWf (f s).mem = true

theorem CpuOp.comp {f g : State → State} (hg : CpuOp g) (hf : CpuOp f) : CpuOp fun s => g (f s) where
  seen s d := hg.seen.congr (hf.seen s d)
  frame s := by
    obtain ⟨f0, f1, f2, fn, fp, fc, fr, fd⟩ := hf.frame s
    obtain ⟨g0, g1, g2, gn, gp, gc, gr, gd⟩ := hg.frame (f s)
    exact ⟨g0.trans f0, g1.trans f1, g2.trans f2, gn.trans fn, gp.trans fp, gc.trans fc, gr.trans fr, gd.trans fd⟩
  canonical s hs := hg.canonical _ (hf.canonical s hs)

/-- An operation that the visible part selects. -/
theorem CpuOp.of_seen {F : State → State → State} (hF : ∀ s, CpuOp (F s)) (hs : Seen F) : CpuOp fun s => F s s where
  seen s d := by simpa only [hs s d] using (hF s).seen s d
  frame s := (hF s).frame s
  canonical s := (hF s).canonical s

theorem Seen.comp {α : Type} {g : State → α} (hg : Seen g) {f : State → State} (hf : CpuOp f) :
    Seen fun s => g (f s) := fun s d => hg.congr (hf.seen s d)

/-- Also proves `Elsewhere s (f s)` for an `f` that sets none of these fields. -/
theorem elsewhere_refl (s : State) : Elsewhere s s := ⟨rfl, rfl, rfl, rfl, rfl, rfl, rfl, rfl⟩

theorem cpuOp_write (a : Word) (v : Byte) : CpuOp fun s => s.write a v :=
  ⟨fun _ _ => rfl, elsewhere_refl, fun _ => memWf_write a v⟩

theorem cpuOp_push (v : Byte) : CpuOp fun s => s.push v :=
  ⟨fun _ _ => rfl, elsewhere_refl, fun _ => memWf_push v⟩

theorem cpuOp_push_seen {v : State → Byte} (hv : Seen v) : CpuOp fun s => s.push (v s) :=
  .of_seen (F := fun s u => u.push (v s)) (fun _ => cpuOp_push _) fun s d => by simp only [hv s d]

theorem cpuOp_pushWord_seen {w : State → Word} (hw : Seen w) : CpuOp fun s => s.pushWord (w s) :=
  .of_seen (F := fun s u => u.pushWord (w s)) (fun _ => (cpuOp_push _).comp (cpuOp_push _)) fun s d => by
    simp only [hw s d]

theorem cpuOp_dropTop : CpuOp State.dropTop := ⟨fun _ _ => rfl, elsewhere_refl, fun _ hs => hs⟩

theorem cpuOp_setPc (w : Word) : CpuOp fun s => s.setPc w :=
  ⟨fun _ _ => rfl, elsewhere_refl, fun _ hs => hs⟩

theorem cpuOp_setP (p : Byte) : CpuOp fun s => s.setP p :=
  ⟨fun _ _ => rfl, elsewhere_refl, fun _ hs => hs⟩

theorem cpuOp_setFlag (f : Flag) (b : Bool) : CpuOp fun s => s.setFlag f b :=
  ⟨fun _ _ => rfl, elsewhere_refl, fun _ hs => hs⟩

theorem cpuOp_retireAt (op : Byte) (acc : Access) : CpuOp fun s => retireAt op acc s :=
  ⟨fun _ _ => rfl, elsewhere_refl, fun _ hs => hs⟩

theorem cpuOp_freeAddr_retire (op : Byte) (len : Word) (taken crossed : Bool) :
    CpuOp fun s => freeAddr (retire op len taken crossed s) :=
  ⟨fun _ _ => rfl, elsewhere_refl, fun _ hs => hs⟩

/-! ## The shapes of instruction -/

/-- The opcode bytes of STA, STX, STY and SAX (rule R31). -/
def storeOpcodes : List Byte :=
  [0x85, 0x95, 0x8D, 0x9D, 0x99, 0x81, 0x91, 0x86, 0x96, 0x8E, 0x84, 0x94, 0x8C, 0x87, 0x97, 0x8F, 0x83]

/-- `run`, of the opcode byte `op`, always answers a next state, by an operation on the CPU's part of the state that
reports a store address only if `op` is a store's. -/
def RunsOnCpu (op : Byte) (run : State → Result) : Prop :=
  ∃ f, (∀ s, run s = .next (f s)) ∧ CpuOp f ∧ (op ∉ storeOpcodes → ∀ s, (f s).storadd = 0)

/-- A meaning that the visible part selects. -/
theorem RunsOnCpu.of_seen {op : Byte} {R : State → State → Result} (h : ∀ s, RunsOnCpu op (R s)) (hR : Seen R) :
    RunsOnCpu op fun s => R s s := by
  choose f hnext hcpu hstoradd using h
  have hf : ∀ s d u, f (withVisible d (visible s)) u = f s u := fun s d u =>
    Host.Outcome.next.inj ((hnext _ u).symm.trans ((congrFun (hR s d) u).trans (hnext s u)))
  exact ⟨fun s => f s s, fun s => hnext s s, .of_seen hcpu fun s d => funext (hf s d), fun hop s => hstoradd s hop s⟩

section

variable {op : Byte} {acc : State → Access}

theorem runsOnCpu_readOp {v : State → Byte} {f : Byte → State → State} (hacc : Seen acc) (hv : Seen v)
    (hf : ∀ m, CpuOp (f m)) : RunsOnCpu op fun s => readOp op (acc s) (v s) f s :=
  .of_seen (R := fun s => readOp op (acc s) (v s) f)
    (fun _ => ⟨_, fun _ => rfl, (cpuOp_retireAt op _).comp (hf _), fun _ _ => rfl⟩)
    fun s d => by simp only [hacc s d, hv s d]

theorem runsOnCpu_readMem {f : Byte → State → State} (hacc : Seen acc) (hf : ∀ m, CpuOp (f m)) :
    RunsOnCpu op fun s => readMem op (acc s) f s :=
  runsOnCpu_readOp hacc (seen_read_ea hacc) hf

theorem runsOnCpu_readImm {b : Byte} {f : Byte → State → State} (hf : ∀ m, CpuOp (f m)) :
    RunsOnCpu op fun s => readImm op b f s :=
  runsOnCpu_readOp (fun _ _ => rfl) (fun _ _ => rfl) hf

theorem runsOnCpu_storeOp {v : State → Byte} (hop : storeOpcodes.contains op = true) (hacc : Seen acc) (hv : Seen v) :
    RunsOnCpu op fun s => storeOp op (acc s) (v s) s :=
  .of_seen (R := fun s => storeOp op (acc s) (v s))
    (fun _ => ⟨_, fun _ => rfl, ⟨fun _ _ => rfl, elsewhere_refl, fun _ => memWf_write _ _⟩,
      fun h => absurd (List.contains_iff_mem.mp hop) h⟩)
    fun s d => by simp only [hacc s d, hv s d]

theorem runsOnCpu_modifyOp {new : State → Byte → Byte} {after : State → Byte → State → State} (hacc : Seen acc)
    (hnew : Seen new) (hafter : Seen after) (hop : ∀ s m, CpuOp (after s m)) :
    RunsOnCpu op fun s => modifyOp op (acc s) (new s) (after s) s :=
  .of_seen (R := fun s u => .next (retireAt op (acc s) (after s (s.read (acc s).ea)
      (u.write (acc s).ea (new s (s.read (acc s).ea))))))
    (fun _ => ⟨_, fun _ => rfl, (cpuOp_retireAt op _).comp ((hop _ _).comp (cpuOp_write _ _)), fun _ _ => rfl⟩)
    fun s d => by simp only [hacc s d, hnew s d, hafter s d]; rfl

theorem runsOnCpu_shiftMemOp {shift : Byte → Bool → Shifted} (hacc : Seen acc) :
    RunsOnCpu op fun s => shiftMemOp op (acc s) shift s :=
  runsOnCpu_modifyOp hacc (new := fun s m => (shift m (s.flag .c)).r)
    (after := fun s m t => (t.setFlag .c (shift m (s.flag .c)).c).setNZ (shift m (s.flag .c)).r)
    (fun _ _ => rfl) (fun _ _ => rfl) fun _ _ => ⟨fun _ _ => rfl, elsewhere_refl, fun _ hs => hs⟩

theorem runsOnCpu_countMemOp {new : Byte → Byte} (hacc : Seen acc) :
    RunsOnCpu op fun s => countMemOp op (acc s) new s :=
  runsOnCpu_modifyOp hacc (new := fun _ => new) (after := fun _ m t => t.setNZ (new m))
    (fun _ _ => rfl) (fun _ _ => rfl) fun _ _ => ⟨fun _ _ => rfl, elsewhere_refl, fun _ hs => hs⟩

theorem runsOnCpu_shiftThenOp {shift : Byte → Bool → Shifted} {alu : Byte → State → State} (hacc : Seen acc)
    (halu : ∀ m, CpuOp (alu m)) : RunsOnCpu op fun s => shiftThenOp op (acc s) shift alu s :=
  runsOnCpu_modifyOp hacc (new := fun s m => (shift m (s.flag .c)).r)
    (after := fun s m t => alu (shift m (s.flag .c)).r (t.setFlag .c (shift m (s.flag .c)).c))
    (fun _ _ => rfl) (fun _ _ => rfl) fun _ _ => (halu _).comp (cpuOp_setFlag _ _)

theorem runsOnCpu_impliedOp {f : State → State} (hf : CpuOp f) : RunsOnCpu op (impliedOp op f) :=
  ⟨_, fun _ => rfl, (cpuOp_freeAddr_retire op 1 false false).comp hf, fun _ _ => rfl⟩

theorem runsOnCpu_shiftAccOp {shift : Byte → Bool → Shifted} : RunsOnCpu op (shiftAccOp op shift) :=
  ⟨_, fun _ => rfl, ⟨fun _ _ => rfl, elsewhere_refl, fun _ hs => hs⟩, fun _ _ => rfl⟩

theorem runsOnCpu_branchOp {b : Byte} {cond : State → Bool} (hc : Seen cond) :
    RunsOnCpu op fun s => branchOp op b (cond s) s :=
  .of_seen (R := fun s => branchOp op b (cond s))
    (fun s => by
      cases cond s with
      | false | true =>
        exact ⟨_, fun _ => rfl, ⟨fun _ _ => rfl, elsewhere_refl, fun _ hs => hs⟩, fun _ _ => rfl⟩)
    fun s d => by simp only [hc s d]

theorem runsOnCpu_jumpOp {len : Word} {target : State → Word} (ht : Seen target) :
    RunsOnCpu op fun s => jumpOp op len (target s) s :=
  .of_seen (R := fun s => jumpOp op len (target s))
    (fun _ => ⟨_, fun _ => rfl, (cpuOp_setPc _).comp (cpuOp_freeAddr_retire op len false false), fun _ _ => rfl⟩)
    fun s d => by simp only [ht s d]

theorem runsOnCpu_callOp {target : Word} : RunsOnCpu op (callOp op target) :=
  ⟨_, fun _ => rfl,
    (cpuOp_setPc target).comp ((cpuOp_freeAddr_retire op 3 false false).comp (cpuOp_pushWord_seen fun _ _ => rfl)),
    fun _ _ => rfl⟩

theorem runsOnCpu_transferOp {f : State → State} (hf : CpuOp f) : RunsOnCpu op (transferOp op f) :=
  .of_seen (R := fun s u => .next ((freeAddr (retire op 1 false false (f u))).setPc (f s).pc))
    (fun _ => ⟨_, fun _ => rfl, (cpuOp_setPc _).comp ((cpuOp_freeAddr_retire op 1 false false).comp hf),
      fun _ _ => rfl⟩)
    fun s d => by
      have hpc : (f (withVisible d (visible s))).pc = (f s).pc := congrArg Visible.pc (hf.seen s d)
      simp only [hpc]

theorem runsOnCpu_sentinelOp {status : Byte} : RunsOnCpu op (sentinelOp op status) :=
  ⟨_, fun _ => rfl, ⟨fun _ _ => rfl, elsewhere_refl, fun _ hs => hs⟩, fun _ _ => rfl⟩

theorem runsOnCpu_returnOp {sentinel : State → Byte} {f : State → State} (hs : Seen sentinel) (hf : CpuOp f) :
    RunsOnCpu op fun s => returnOp op (sentinel s) f s :=
  .of_seen (R := fun s u => if s.sp = spReset then sentinelOp op (sentinel s) u else transferOp op f u)
    (fun s => by
      by_cases h : s.sp = spReset
      · simpa only [h, if_true] using runsOnCpu_sentinelOp
      · simpa only [h, if_false] using runsOnCpu_transferOp hf)
    fun s d => by
      have hsp : (withVisible d (visible s)).sp = s.sp := rfl
      simp only [hs s d, hsp]

end

/-! ## The operations of the instructions -/

theorem cpuOp_opBit (m : Byte) : CpuOp (opBit m) :=
  have hz : CpuOp fun s => s.setFlag .z (decide (s.a &&& m = 0)) := ⟨fun _ _ => rfl, elsewhere_refl, fun _ hs => hs⟩
  (cpuOp_setFlag .v _).comp ((cpuOp_setFlag .n _).comp hz)

/-- BRK pushes what the state before it holds, then takes PC from the vector in the memory the pushes left. -/
theorem cpuOp_softwareBreak : CpuOp softwareBreak :=
  have hsaved : CpuOp fun s => (s.pushWord (s.pc + 2)).push (s.p ||| s.params.pushOrMask) :=
    .of_seen (F := fun s u => (u.pushWord (s.pc + 2)).push (s.p ||| s.params.pushOrMask))
      (fun _ => (cpuOp_push _).comp ((cpuOp_push _).comp (cpuOp_push _))) fun _ _ => rfl
  have hvector : CpuOp fun t => t.setPc (t.readWord brkVector) := ⟨fun _ _ => rfl, elsewhere_refl, fun _ hs => hs⟩
  hvector.comp ((cpuOp_setFlag .i true).comp hsaved)

/-- RTI pulls three bytes: each is read from a state that a pull left. -/
theorem cpuOp_returnFromBreak : CpuOp returnFromBreak :=
  have h0 : Seen State.pulled := fun _ _ => rfl
  have h1 : Seen fun s => s.dropTop.pulled := h0.comp cpuOp_dropTop
  have h2 : Seen fun s => s.dropTop.dropTop.pulled := h1.comp cpuOp_dropTop
  .of_seen (F := fun s u => ((u.dropTop.dropTop.dropTop).setP s.pulled).setPc
      (joinBytes s.dropTop.dropTop.pulled s.dropTop.pulled))
    (fun _ => (cpuOp_setPc _).comp ((cpuOp_setP _).comp (cpuOp_dropTop.comp (cpuOp_dropTop.comp cpuOp_dropTop))))
    fun s d => by simp only [h0 s d, h1 s d, h2 s d]

theorem cpuOp_returnFromCall : CpuOp returnFromCall := ⟨fun _ _ => rfl, elsewhere_refl, fun _ hs => hs⟩

/-! ## Every instruction -/

/-- Rules R11 and R100: an instruction is refused in every state, or it always answers a next state, by an operation on
the CPU's part of the state. -/
theorem exec_refused_or_runsOnCpu (i : Instr) : (∃ r, ∀ s, exec i s = .refused r) ∨ RunsOnCpu i.opcode (exec i) := by
  cases i with
  | jam02 | jam12 | jam22 | jam32 | jam42 | jam52 | jam62 | jam72 | jam92 | jamB2 | jamD2 | jamF2
  | aneImm | lxaImm | shaIzy | shaAby | shxAby | shyAbx | tasAby => exact .inl ⟨_, fun _ => rfl⟩
  | staZp | staZpx | staAbs | staAbx | staAby | staIzx | staIzy | stxZp | stxZpy | stxAbs | styZp | styZpx | styAbs
  | saxZp | saxZpy | saxAbs | saxIzx =>
    exact .inr (runsOnCpu_storeOp rfl (fun _ _ => rfl) fun _ _ => rfl)
  | aslZp | aslZpx | aslAbs | aslAbx | rolZp | rolZpx | rolAbs | rolAbx | lsrZp | lsrZpx | lsrAbs | lsrAbx
  | rorZp | rorZpx | rorAbs | rorAbx => exact .inr (runsOnCpu_shiftMemOp fun _ _ => rfl)
  | decZp | decZpx | decAbs | decAbx => exact .inr (runsOnCpu_countMemOp (new := (· - 1)) fun _ _ => rfl)
  | incZp | incZpx | incAbs | incAbx => exact .inr (runsOnCpu_countMemOp (new := (· + 1)) fun _ _ => rfl)
  | sloZp | sloZpx | sloAbs | sloAbx | sloAby | sloIzx | sloIzy
  | rlaZp | rlaZpx | rlaAbs | rlaAbx | rlaAby | rlaIzx | rlaIzy
  | sreZp | sreZpx | sreAbs | sreAbx | sreAby | sreIzx | sreIzy
  | rraZp | rraZpx | rraAbs | rraAbx | rraAby | rraIzx | rraIzy =>
    exact .inr (runsOnCpu_shiftThenOp (fun _ _ => rfl) fun _ => ⟨fun _ _ => rfl, elsewhere_refl, fun _ hs => hs⟩)
  | dcpZp | dcpZpx | dcpAbs | dcpAbx | dcpAby | dcpIzx | dcpIzy =>
    exact .inr (runsOnCpu_modifyOp (new := fun _ => (· - 1)) (after := fun _ m => opCmp (m - 1)) (fun _ _ => rfl)
      (fun _ _ => rfl) (fun _ _ => rfl) fun _ _ => ⟨fun _ _ => rfl, elsewhere_refl, fun _ hs => hs⟩)
  | iscZp | iscZpx | iscAbs | iscAbx | iscAby | iscIzx | iscIzy =>
    exact .inr (runsOnCpu_modifyOp (new := fun _ => (· + 1)) (after := fun _ m => opSbc (m + 1)) (fun _ _ => rfl)
      (fun _ _ => rfl) (fun _ _ => rfl) fun _ _ => ⟨fun _ _ => rfl, elsewhere_refl, fun _ hs => hs⟩)
  | aslAcc | rolAcc | lsrAcc | rorAcc => exact .inr runsOnCpu_shiftAccOp
  | php | pha => exact .inr (runsOnCpu_impliedOp (cpuOp_push_seen fun _ _ => rfl))
  | plp | pla | txa | tax | txs | tsx | tay | tya | dex | dey | inx | iny | clc | sec | cli | sei | clv | cld | sed
  | nop | nop1A | nop3A | nop5A | nop7A | nopDA | nopFA =>
    exact .inr (runsOnCpu_impliedOp ⟨fun _ _ => rfl, elsewhere_refl, fun _ hs => hs⟩)
  | bpl | bmi | bvc | bvs | bcc | bcs | bne | beq => exact .inr (runsOnCpu_branchOp fun _ _ => rfl)
  | jmpAbs | jmpInd => exact .inr (runsOnCpu_jumpOp fun _ _ => rfl)
  | jsr => exact .inr runsOnCpu_callOp
  | brk => exact .inr (runsOnCpu_transferOp cpuOp_softwareBreak)
  | rti => exact .inr (runsOnCpu_returnOp (fun _ _ => rfl) cpuOp_returnFromBreak)
  | rts => exact .inr (runsOnCpu_returnOp (fun _ _ => rfl) cpuOp_returnFromCall)
  | bitZp | bitAbs => exact .inr (runsOnCpu_readMem (fun _ _ => rfl) cpuOp_opBit)
  | oraImm | andImm | eorImm | adcImm | ldaImm | cmpImm | sbcImm | ldxImm | ldyImm | cpxImm | cpyImm
  | ancImm0B | ancImm2B | alrImm | arrImm | sbxImm | sbcImmEB | nopImm80 | nopImm82 | nopImm89 | nopImmC2 | nopImmE2 =>
    exact .inr (runsOnCpu_readImm fun _ => ⟨fun _ _ => rfl, elsewhere_refl, fun _ hs => hs⟩)
  | _ => exact .inr (runsOnCpu_readMem (fun _ _ => rfl) fun _ => ⟨fun _ _ => rfl, elsewhere_refl, fun _ hs => hs⟩)

/-- An instruction that answers a next state got there by an operation on the CPU's part of the state. -/
theorem cpuOp_of_exec_next {i : Instr} {s t : State} (h : exec i s = .next t) :
    ∃ f, CpuOp f ∧ t = f s ∧ (i.opcode ∉ storeOpcodes → t.storadd = 0) := by
  obtain ⟨r, hr⟩ | ⟨f, hf, hop, hstoradd⟩ := exec_refused_or_runsOnCpu i
  · rw [hr] at h
    cases h
  · rw [hf] at h
    cases h
    exact ⟨f, hop, rfl, fun hi => hstoradd hi s⟩

/-- Two states with the same visible part: the same refusal, or next states with the same visible part. -/
theorem exec_visible_congr (i : Instr) {s s' : State} (hv : visible s = visible s') :
    (∃ t t', exec i s = .next t ∧ exec i s' = .next t' ∧ visible t = visible t') ∨
      ∃ r, exec i s = .refused r ∧ exec i s' = .refused r := by
  obtain ⟨r, hr⟩ | ⟨f, hf, hop, -⟩ := exec_refused_or_runsOnCpu i
  · exact .inr ⟨r, hr s, hr s'⟩
  · exact .inl ⟨f s, f s', hf s, hf s', hop.seen.congr hv⟩

end Sys2Proof.Safety

namespace Sys2Proof.Machine

open Sys2Proof.Safety

/-! ## One sample of a voice and the ranges of its channel -/

theorem rateAdvance_range {cfg : DevConfig} (hcfg : cfg.Valid) {n : Rat} (h : 0 ≤ n) :
    0 ≤ rateAdvance cfg n ∧ rateAdvance cfg n < 0x8000 := by
  have hclk := hcfg.clkRatio_pos
  unfold rateAdvance
  dsimp only
  split
  · exact ratMod_range _ (by norm_num)
  · next hlt => exact ⟨by linarith, not_le.mp hlt⟩

theorem nextPhase_range (cfg : DevConfig) (r : VoiceRegs) (msbRise : Bool) (prevphase : Rat) :
    0 ≤ nextPhase cfg r msbRise prevphase ∧ nextPhase cfg r msbRise prevphase < 0x1000000 := by
  unfold nextPhase
  split
  · norm_num
  · split
    · norm_num
    · exact ratMod_range _ (by norm_num)

/-- What the envelope step keeps of the invariant of a channel: the range of the rate counter, and hold-zero only
at 0. -/
theorem envelopeStep_keeps {cfg : DevConfig} (hcfg : cfg.Valid) (r : VoiceRegs) {ch : Channel} (h0 : 0 ≤ ch.ratecnt)
    (hz : ch.holdzero = true → ch.envcnt = 0) :
    0 ≤ (envelopeStep cfg r ch).ratecnt ∧ (envelopeStep cfg r ch).ratecnt < 0x8000 ∧
      ((envelopeStep cfg r ch).holdzero = true → (envelopeStep cfg r ch).envcnt = 0) := by
  obtain ⟨hlo, hhi⟩ := rateAdvance_range hcfg h0
  have hedge : (gateEdge r ch).holdzero = true → (gateEdge r ch).envcnt = 0 := fun h => by
    obtain ⟨-, henv, -⟩ := gateEdge_counters r ch
    exact henv.trans (hz (holdzero_of_gateEdge h))
  cases hbug : delayBug r ch with
  | true =>
    rw [envelopeStep_suppressed hbug]
    exact ⟨hlo, hhi, hedge⟩
  | false =>
    rw [envelopeStep_compared hbug]
    obtain ⟨a, z, e, x, heq, -, hfrozen, -, -, hlatch⟩ := envelopeCompare_spec cfg r ch.ratecnt
      { gateEdge r ch with prevSR := r.sr, ratecnt := rateAdvance cfg ch.ratecnt }
    obtain ⟨hlo', hhi'⟩ := rateCompare_range hcfg.adsrPeriod_nonneg r ch.ratecnt
      (ch := { gateEdge r ch with prevSR := r.sr, ratecnt := rateAdvance cfg ch.ratecnt }) hlo hhi
    rw [heq]
    refine ⟨hlo', hhi', fun h => ?_⟩
    rcases hlatch h with hold | he
    · exact (hfrozen hold).2.trans (hedge hold)
    · exact he

theorem voiceStep_keeps_channelInv {cfg : DevConfig} (hcfg : cfg.Valid) (model : ChipModel) (r : VoiceRegs)
    (msb rise : Bool) {ch : Channel} (h : ChannelInv ch) : ChannelInv (voiceStep cfg model r msb rise ch).ch := by
  obtain ⟨h0, -, -, -, -, hz⟩ := h
  obtain ⟨hlo, hhi, hz'⟩ := envelopeStep_keeps hcfg r h0 hz
  obtain ⟨hp0, hp1⟩ := nextPhase_range cfg r rise (envelopeStep cfg r ch).prevphase
  exact ⟨hlo, hhi, hp0, hp1, rfl, hz'⟩

theorem chipStep_keeps_chipInv {cfg : DevConfig} (hcfg : cfg.Valid) (r : ChipRegs) {c : Chip} (h : ChipInv c) :
    ChipInv (chipStep cfg r c) := by
  obtain ⟨h0, h1, h2⟩ := h
  exact ⟨voiceStep_keeps_channelInv hcfg _ _ _ _ h0, voiceStep_keeps_channelInv hcfg _ _ _ _ h1,
    voiceStep_keeps_channelInv hcfg _ _ _ _ h2⟩

theorem channelInv_reset : ChannelInv Channel.reset := by
  norm_num [Channel.reset, ChannelInv]

theorem clearBits_keeps_channelInv (g a d z : Bool) {ch : Channel} (h : ChannelInv ch) :
    ChannelInv (clearBits g a d z ch) := by
  obtain ⟨h0, h1, hp0, hp1, hp, hz⟩ := h
  exact ⟨h0, h1, hp0, hp1, hp, fun hc => hz (Bool.and_eq_true_iff.mp hc).1⟩

theorem mapVoice_keeps_chipInv (v : Voice) {f : Channel → Channel} (hf : ∀ {ch}, ChannelInv ch → ChannelInv (f ch))
    {c : Chip} (h : ChipInv c) : ChipInv (mapVoice v f c) := by
  obtain ⟨h0, h1, h2⟩ := h
  cases v with
  | voice0 => exact ⟨hf h0, h1, h2⟩
  | voice1 => exact ⟨h0, hf h1, h2⟩
  | voice2 => exact ⟨h0, h1, hf h2⟩

/-! ## `chip_init` -/

/-- Zeroing bytes changes memory only. -/
theorem zeroBytes_eq (n : Nat) (a : Word) (s : State) : ∃ m, zeroBytes n a s = { s with mem := m } := by
  induction n generalizing a s with
  | zero => exact ⟨s.mem, rfl⟩
  | succ n ih => exact ih (a + 1) (s.write a 0)

theorem zeroWindow_eq (i : ChipIndex) (s : State) : ∃ m, zeroWindow i s = { s with mem := m } := by
  unfold zeroWindow
  split
  · exact zeroBytes_eq _ _ _
  · exact ⟨s.mem, rfl⟩

/-- `chip_init` changes memory, the chips and its own mark only. -/
theorem chipInit_eq (s : State) : ∃ m, chipInit s = { s with
    mem := m, chip0 := resetChip s.chip0, chip1 := resetChip s.chip1, chip2 := resetChip s.chip2, devReady := true } := by
  obtain ⟨m0, h0⟩ := zeroWindow_eq .chip0 s
  obtain ⟨m1, h1⟩ := zeroWindow_eq .chip1 { s with mem := m0 }
  obtain ⟨m2, h2⟩ := zeroWindow_eq .chip2 { s with mem := m1 }
  exact ⟨m2, by rw [chipInit, h0, h1, h2]⟩

theorem read_zeroBytes (n : Nat) (a c : Word) (s : State) :
    (zeroBytes n a s).read c = if ∃ k < n, c = a + BitVec.ofNat 16 k then 0 else s.read c := by
  induction n generalizing a s with
  | zero => simp [zeroBytes]
  | succ n ih =>
    have hshift : ∀ k, a + 1 + BitVec.ofNat 16 k = a + BitVec.ofNat 16 (k + 1) := fun k => by
      rw [Nat.add_comm k, BitVec.ofNat_add, ← BitVec.add_assoc]
      rfl
    have hsplit : (∃ k < n + 1, c = a + BitVec.ofNat 16 k) ↔ c = a ∨ ∃ k < n, c = a + 1 + BitVec.ofNat 16 k := by
      simp only [hshift, Nat.exists_lt_succ_left, BitVec.add_zero]
    rw [zeroBytes, ih, read_write]
    by_cases hrest : ∃ k < n, c = a + 1 + BitVec.ofNat 16 k
    · rw [if_pos hrest, if_pos (hsplit.mpr (.inr hrest))]
    · rw [if_neg hrest]
      exact if_congr (by simp only [hsplit, hrest, or_false]) rfl rfl

/-- The address lies in the window of chip `i`, and the chip is active. -/
def InActiveWindow (s : State) (i : ChipIndex) (c : Word) : Prop :=
  chipActive s.chipCount i = true ∧ ∃ k < 0x20, c = (s.chip i).base + BitVec.ofNat 16 k

theorem inActiveWindow_zeroWindow (s : State) (i j : ChipIndex) (c : Word) :
    InActiveWindow (zeroWindow j s) i c ↔ InActiveWindow s i c := by
  obtain ⟨m, hm⟩ := zeroWindow_eq j s
  rw [hm]
  cases i <;> rfl

open Classical in
theorem read_zeroWindow (i : ChipIndex) (c : Word) (s : State) :
    (zeroWindow i s).read c = if InActiveWindow s i c then 0 else s.read c := by
  unfold zeroWindow InActiveWindow
  split
  · next hactive => simp only [read_zeroBytes, windowLength, hactive, true_and]
  · next hactive => simp only [hactive]; rfl

open Classical in
/-- Memory after `chip_init` (rule R44). -/
theorem read_chipInit (s : State) (c : Word) :
    (chipInit s).read c = if ∃ i, InActiveWindow s i c then 0 else s.read c := by
  have hsome : (∃ i, InActiveWindow s i c) ↔
      InActiveWindow s .chip2 c ∨ InActiveWindow s .chip1 c ∨ InActiveWindow s .chip0 c :=
    ⟨fun ⟨i, h⟩ => by cases i <;> simp [h], by rintro (h | h | h) <;> exact ⟨_, h⟩⟩
  show (zeroWindow .chip2 (zeroWindow .chip1 (zeroWindow .chip0 s))).read c = _
  simp only [read_zeroWindow, inActiveWindow_zeroWindow, hsome]
  split_ifs <;> simp_all

theorem chip_chipInit (s : State) (i : ChipIndex) : (chipInit s).chip i = resetChip (s.chip i) := by
  cases i <;> rfl

/-! ## The invariant -/

theorem inv_chip {s : State} (h : Inv s) (i : ChipIndex) : ChipInv (s.chip i) := by
  obtain ⟨-, -, -, -, h0, h1, h2⟩ := h
  cases i with
  | chip0 => exact h0
  | chip1 => exact h1
  | chip2 => exact h2

theorem inv_setChip {s : State} (h : Inv s) (i : ChipIndex) {c : Chip} (hc : ChipInv c) : Inv (s.setChip i c) := by
  obtain ⟨hmem, hrts, hrti, hne, h0, h1, h2⟩ := h
  cases i with
  | chip0 => exact ⟨hmem, hrts, hrti, hne, hc, h1, h2⟩
  | chip1 => exact ⟨hmem, hrts, hrti, hne, h0, hc, h2⟩
  | chip2 => exact ⟨hmem, hrts, hrti, hne, h0, h1, hc⟩

/-- The invariant is about memory, the parameters and the chips. -/
theorem inv_of_elsewhere {s t : State} (h : Inv s) (ht : Elsewhere s t) (hmem : memWf t.mem = true) : Inv t := by
  obtain ⟨h0, h1, h2, -, hp, -⟩ := ht
  rw [Safety.Inv, h0, h1, h2, hp]
  exact ⟨hmem, h.2⟩

theorem exec_keeps_inv {i : Instr} {s t : State} (h : Inv s) (hstep : exec i s = .next t) : Inv t := by
  obtain ⟨f, hf, rfl, -⟩ := cpuOp_of_exec_next hstep
  exact inv_of_elsewhere h (hf.frame s) (hf.canonical s h.1)

theorem tick_keeps_inv {s t : State} (h : Inv s) (hstep : tick s = .next t) : Inv t := by
  unfold tick at hstep
  split at hstep
  · exact exec_keeps_inv h hstep
  · cases hstep

theorem freeReadBack_keeps_inv (base : Word) {s : State} (h : Inv s) : Inv (freeReadBack base s) :=
  ⟨memWf_freeReadBack base h.1, h.2⟩

theorem emulateWith_keeps_inv {cfg : DevConfig} (hcfg : cfg.Valid) (i : ChipIndex) (base : Word) {s : State}
    (h : Inv s) : Inv (emulateWith cfg i base s) :=
  freeReadBack_keeps_inv base (inv_setChip h i (chipStep_keeps_chipInv hcfg (readWindow s base) (inv_chip h i)))

theorem emulate_keeps_inv {i : ChipIndex} {base : Word} {s t : State} (h : Inv s)
    (hstep : emulate i base s = .next t) : Inv t := by
  unfold emulate at hstep
  split at hstep
  · split at hstep
    · cases hstep
      exact emulateWith_keeps_inv dev_valid i base h
    · cases hstep
  · cases hstep

theorem chipInit_keeps_inv {s : State} (h : Inv s) : Inv (chipInit s) := by
  obtain ⟨hmem, hrts, hrti, hne, -⟩ := h
  have hmem' : memWf (chipInit s).mem = true := memWf_zeroWindow _ (memWf_zeroWindow _ (memWf_zeroWindow _ hmem))
  have hchip : ∀ c, ChipInv (resetChip c) := fun _ => ⟨channelInv_reset, channelInv_reset, channelInv_reset⟩
  obtain ⟨m, hm⟩ := chipInit_eq s
  rw [hm] at hmem' ⊢
  exact ⟨hmem', hrts, hrti, hne, hchip _, hchip _, hchip _⟩

theorem runCall_keeps_inv {call : HostCall} {s t : State} (h : Inv s) (hstep : runCall call s = .next t) : Inv t := by
  cases call with
  | tick => exact tick_keeps_inv h hstep
  | emulate i base => exact emulate_keeps_inv h hstep
  | writeMemory a v =>
    cases hstep
    exact ⟨memWf_write a v h.1, h.2⟩
  | init | reseed | setChipCount =>
    cases hstep
    exact h
  | chipInit =>
    cases hstep
    exact chipInit_keeps_inv h
  | setChipBase i | setChipModel i =>
    cases hstep
    exact inv_setChip h i (inv_chip h i)
  | clearEnvelope i v g a d z =>
    cases hstep
    exact inv_setChip h i (mapVoice_keeps_chipInv v (clearBits_keeps_channelInv g a d z) (inv_chip h i))

/-! ## A silent chip -/

/-- A voice of a silent chip: its gate off, in hold-zero at 0. -/
def AtRest (ch : Channel) : Prop := ch.gate = false ∧ ch.holdzero = true ∧ ch.envcnt = 0

theorem silent_iff (c : Chip) :
    Silent c ↔ AtRest c.voice0 ∧ AtRest c.voice1 ∧ AtRest c.voice2 ∧ c.lowpass = 0 ∧ c.bandpass = 0 := by
  simp [Silent, AtRest, and_assoc]

theorem signal_of_atRest {ch : Channel} (h : AtRest ch) : signal ch = 0 := by
  obtain ⟨-, -, he⟩ := h
  simp [signal, he]

/-- With the gate closed there is no edge, and hold-zero freezes the counter (rules R341, R348). -/
theorem envelopeStep_atRest (cfg : DevConfig) {r : VoiceRegs} {ch : Channel} (hr : r.ctrl.getLsbD 0 = false)
    (h : AtRest ch) : AtRest (envelopeStep cfg r ch) := by
  obtain ⟨hg, hz, he⟩ := h
  have hgate : r.gateBit = ch.gate := hr.trans hg.symm
  have hedge : gateEdge r ch = ch := if_pos hgate
  have hbug : delayBug r ch = false := by simp [delayBug, gateRises, hgate]
  obtain ⟨a, z, e, x, heq, -, hfrozen, -⟩ := envelopeCompare_spec cfg r ch.ratecnt
    { gateEdge r ch with prevSR := r.sr, ratecnt := rateAdvance cfg ch.ratecnt }
  rw [envelopeStep_compared hbug, heq]
  rw [hedge] at hfrozen ⊢
  obtain ⟨hz', he'⟩ := hfrozen hz
  exact ⟨hg, hz', he'.trans he⟩

theorem voiceStep_atRest (cfg : DevConfig) (model : ChipModel) {r : VoiceRegs} (msb rise : Bool) {ch : Channel}
    (hr : r.ctrl.getLsbD 0 = false) (h : AtRest ch) : AtRest (voiceStep cfg model r msb rise ch).ch :=
  envelopeStep_atRest cfg hr h

theorem toFilter_of_atRest (r : ChipRegs) (v : Voice) {ch : Channel} (h : AtRest ch) : toFilter r v ch = 0 := by
  rw [toFilter, signal_of_atRest h, ite_self]

theorem toDirect_of_atRest (r : ChipRegs) (v : Voice) {ch : Channel} (h : AtRest ch) : toDirect r v ch = 0 := by
  rw [toDirect, signal_of_atRest h, ite_self]

theorem filterStep_at_rest (w q : Rat) (modeVol : Byte) :
    filterStep w q modeVol 0 0 0 = { lowpass := 0, bandpass := 0, filtout := 0 } := by
  simp [filterStep]

theorem chipStep_silent (cfg : DevConfig) {r : ChipRegs} {c : Chip} (h : Silent c)
    (hr : ∀ v, (r.voice v).ctrl.getLsbD 0 = false) : Silent (chipStep cfg r c) ∧ (chipStep cfg r c).out = 0 := by
  obtain ⟨h0, h1, h2, hlp, hbp⟩ := (silent_iff c).mp h
  have v0 := fun msb rise => voiceStep_atRest cfg c.model msb rise (hr .voice0) h0
  have v1 := fun msb rise => voiceStep_atRest cfg c.model msb rise (hr .voice1) h1
  have v2 := fun msb rise => voiceStep_atRest cfg c.model msb rise (hr .voice2) h2
  simp only [ChipRegs.voice] at v0 v1 v2
  rw [silent_iff]
  simp [chipStep, v0, v1, v2, toFilter_of_atRest, toDirect_of_atRest, hlp, hbp, filterStep_at_rest, mix]

theorem resetChip_silent (c : Chip) : Silent (resetChip c) := by
  simp [Silent, resetChip, Chip.reset, Channel.reset]

end Sys2Proof.Machine

open Sys2Proof Sys2Proof.Machine Sys2Proof.Safety

/-- Settles O14: the invariant is kept by a `tick` and by each host call. -/
theorem stepKeepsInvariant : Obligations.StepKeepsInvariant := by
  intro s t h hstep
  cases hcalls : s.calls with
  | nil => exact tick_keeps_inv h (step_eq_tick hcalls ▸ hstep)
  | cons call rest =>
    have hs : Inv { s with calls := rest } := h
    exact runCall_keeps_inv hs (step_eq_runCall hcalls ▸ hstep)

/-- Settles O52: every meaning is a function of the visible part. -/
theorem programsCannotSeeTheDevice : Obligations.ProgramsCannotSeeTheDevice :=
  fun i _ _ hv => exec_visible_congr i hv

/-- Settles O10, from memory after `chip_init` at every address and from the form of the state it leaves. -/
theorem chipInitResult : Obligations.ChipInitResult := by
  classical
  intro s rest hcalls
  refine ⟨chipInit { s with calls := rest }, step_eq_runCall hcalls, fun i hi k hk => ?_, fun c hc => ?_,
    fun i => ?_, rfl, rfl, rfl, ?_⟩
  · exact (read_chipInit _ _).trans (if_pos ⟨i, hi, k, hk, rfl⟩)
  · exact (read_chipInit _ _).trans (if_neg fun ⟨i, hi, k, hk, he⟩ => hc i hi k hk he)
  · exact (chip_chipInit _ i).trans rfl
  · obtain ⟨m, hm⟩ := chipInit_eq { s with calls := rest }
    rw [hm]
    exact ⟨⟨rfl, rfl, rfl, rfl⟩, rfl, rfl, rfl, rfl, rfl, rfl, rfl, rfl, rfl, rfl⟩

/-- Settles O50, from what an instruction that answers a next state may do. -/
theorem onlyStoresReportAStoreAddress : Obligations.OnlyStoresReportAStoreAddress := by
  intro i s t hstep hop
  obtain ⟨f, -, -, hstoradd⟩ := cpuOp_of_exec_next hstep
  exact hstoradd hop

/-- Settles O53: an operation on the CPU's part of the state keeps everything else. -/
theorem instructionsLeaveTheDeviceAlone : Obligations.InstructionsLeaveTheDeviceAlone := by
  intro i s t hstep
  obtain ⟨f, hf, rfl, -⟩ := cpuOp_of_exec_next hstep
  exact hf.frame s

/-- Settles O60: the voices stay at rest, so nothing reaches the filter or the mixer; `chip_init` leaves that state. -/
theorem closedGatesAreSilent : Obligations.ClosedGatesAreSilent :=
  ⟨fun cfg _ _ h hr => chipStep_silent cfg h hr, fun s i => chip_chipInit s i ▸ resetChip_silent (s.chip i)⟩

/-- Settles O8: the fields of `cpuInit`. -/
theorem initSetsCpu : Obligations.InitSetsCpu := by
  intro s entry seed rest hcalls
  exact ⟨_, step_eq_runCall hcalls, BitVec.toNat_ofNat entry 16, BitVec.toNat_ofNat seed 8, rfl, rfl, rfl, rfl,
    fun _ => rfl, rfl, rfl, rfl, rfl, rfl, rfl, rfl⟩

/-- Settles O9: the due call is the step. -/
theorem reseedSetsPcAndSpOnly : Obligations.ReseedSetsPcAndSpOnly :=
  fun _ _ _ hcalls => ⟨_, step_eq_runCall hcalls, rfl⟩

end

section
/-! PROOFS. The host's calls (20_memory.md section 4, rule R66): what a write, a setting of a chip and the clearing of
envelope bits change, and what each leaves. -/

namespace Sys2Proof.Machine

open Sys2Proof.Safety

theorem memStored_write (s : State) (a : Word) (v : Byte) : MemStored a v s (s.write a v) :=
  ⟨read_write_same s a v, fun _ hc => read_write_ne s v hc⟩

theorem setChip_eq (s : State) (i : ChipIndex) (c : Chip) : s.setChip i c =
    { s with chip0 := (s.setChip i c).chip0, chip1 := (s.setChip i c).chip1, chip2 := (s.setChip i c).chip2 } := by
  cases i <;> rfl

theorem voiceOf_mapVoice (v w : Voice) (f : Channel → Channel) (c : Chip) :
    voiceOf (mapVoice v f c) w = if w = v then f (voiceOf c w) else voiceOf c w := by
  cases v <;> cases w <;> rfl

theorem mapVoice_eq (v : Voice) (f : Channel → Channel) (c : Chip) : mapVoice v f c = { c with
    voice0 := (mapVoice v f c).voice0, voice1 := (mapVoice v f c).voice1, voice2 := (mapVoice v f c).voice2 } := by
  cases v <;> rfl

/-- The chip that a due call reads is that of the state before it. -/
theorem chip_setCalls (s : State) (calls : List HostCall) (i : ChipIndex) :
    ({ s with calls := calls } : State).chip i = s.chip i := by
  cases i <;> rfl

/-- A due call that replaces chip `i` by `c`: the other chips and everything but the chips stay. -/
theorem step_of_setChip {s : State} {call : HostCall} {rest : List HostCall} {i : ChipIndex} {c : Chip}
    (hcalls : s.calls = call :: rest)
    (hrun : runCall call { s with calls := rest } = .next (({ s with calls := rest } : State).setChip i c)) :
    ∃ t, step s = .next t ∧ t.chip i = c ∧ (∀ j, j ≠ i → t.chip j = s.chip j) ∧
      t = { s with chip0 := t.chip0, chip1 := t.chip1, chip2 := t.chip2, calls := rest } :=
  ⟨_, (step_eq_runCall hcalls).trans hrun, chip_setChip_same _ i c,
    fun j hj => (chip_setChip_ne _ c hj).trans (chip_setCalls s rest j), setChip_eq _ i c⟩

end Sys2Proof.Machine

open Sys2Proof Sys2Proof.Machine Sys2Proof.Safety

/-- Settles O11: a due call is a write, a setting of the number of chips, one chip replaced (a base, a model, a voice
of it), a tick or an emulate. -/
theorem otherHostCallsResult : Obligations.OtherHostCallsResult := by
  intro s rest c base b n i m
  refine ⟨fun hwrite => ?write, fun hcount => step_eq_runCall hcount, fun hbase => ?base, fun hmodel => ?model,
    fun v g a d h hclear => ?clear, fun htick hready => (step_eq_runCall htick).trans (tick_eq_exec hready),
    fun hemulate => step_eq_runCall hemulate⟩
  case write => exact ⟨_, step_eq_runCall hwrite, memStored_write _ c b, rfl⟩
  case base => exact chip_setCalls s rest i ▸ step_of_setChip hbase rfl
  case model => exact chip_setCalls s rest i ▸ step_of_setChip hmodel rfl
  case clear =>
    obtain ⟨t, hstep, hchip, hother, hframe⟩ := step_of_setChip hclear rfl
    rw [chip_setCalls] at hchip
    refine ⟨t, hstep, ?_, fun w hw => ?_, ?_, hother, hframe⟩ <;> rw [hchip]
    · exact (voiceOf_mapVoice v v _ _).trans (if_pos rfl)
    · exact (voiceOf_mapVoice v w _ _).trans (if_neg hw)
    · exact mapVoice_eq v _ _

end

section
/-! PROOFS. Effective addresses (30_encoding.md rules R87 to R94) as numbers: the zero page under both values of ZP_WRAP
(decision D4), the indexed absolute modes and the two indirect modes. -/

namespace Sys2Proof

theorem joinBytes_toNat (hi lo : Byte) : (joinBytes hi lo).toNat = 0x100 * hi.toNat + lo.toNat := by
  rw [joinBytes, BitVec.toNat_append, ← Nat.shiftLeft_add_eq_or_of_lt lo.isLt, Nat.shiftLeft_eq, Nat.mul_comm]

end Sys2Proof

namespace Sys2Proof.Machine

theorem zext16_toNat (b : Byte) : (zext16 b).toNat = b.toNat := BitVec.toNat_setWidth_of_le (by decide)

/-- An index is added to an address modulo 0x10000 (rules R91, R92, R94). -/
theorem add_zext16_toNat (w : Word) (i : Byte) : (w + zext16 i).toNat = (w.toNat + i.toNat) % 0x10000 := by
  rw [BitVec.toNat_add, zext16_toNat]

theorem zpMask_toNat (s : State) (v : Word) :
    (zpMask s v).toNat = if s.params.zpWrap then v.toNat % 0x100 else v.toNat := by
  rw [zpMask, apply_ite BitVec.toNat, BitVec.toNat_and]
  exact if_congr Iff.rfl (Nat.and_two_pow_sub_one_eq_mod _ 8) rfl

/-- An indexed zero-page address (rules R88, R89, R93): two bytes add up without a carry out of 16 bits, so only ZP_WRAP
can cut the sum. -/
theorem zpMask_indexed_toNat (s : State) (b i : Byte) : (zpMask s (zext16 b + zext16 i)).toNat =
    if s.params.zpWrap then (b.toNat + i.toNat) % 0x100 else b.toNat + i.toNat := by
  have hsum : (zext16 b + zext16 i).toNat = b.toNat + i.toNat := by
    rw [add_zext16_toNat, zext16_toNat]
    exact Nat.mod_eq_of_lt (by omega)
  rw [zpMask_toNat, hsum]

/-- The second byte of a pointer (rules R93, R94): it is the next one of the zero page under ZP_WRAP, and the next one
of memory without. -/
theorem eq_zpMask_succ {s : State} {p q : Word}
    (hq : q.toNat = if s.params.zpWrap then (p.toNat + 1) % 0x100 else p.toNat + 1) : q = zpMask s (p + 1) := by
  have hbound : q.toNat < 0x10000 := q.isLt
  have hnext : (p + 1).toNat = (p.toNat + 1) % 0x10000 := BitVec.toNat_add p 1
  apply BitVec.eq_of_toNat_eq
  rw [zpMask_toNat, hnext]
  split at hq
  · next hwrap => rw [if_pos hwrap, hq, Nat.mod_mod_of_dvd _ (by decide)]
  · next hplain => rw [if_neg hplain, Nat.mod_eq_of_lt (hq ▸ hbound), hq]

/-- The value of a pointer at `p`, from the addresses of its two bytes. -/
theorem zpPointer_toNat {s : State} {p q0 q1 : Word} (h0 : q0.toNat = p.toNat)
    (h1 : q1.toNat = if s.params.zpWrap then (p.toNat + 1) % 0x100 else p.toNat + 1) :
    (zpPointer s p).toNat = 0x100 * (s.read q1).toNat + (s.read q0).toNat := by
  rw [zpPointer, ← eq_zpMask_succ h1, ← BitVec.eq_of_toNat_eq h0, joinBytes_toNat]

end Sys2Proof.Machine

open Sys2Proof Sys2Proof.Machine

/-- Settles O17: the plain mode extends the byte, the indexed modes mask the sum of two bytes. -/
theorem zeroPageAddresses : Obligations.ZeroPageAddresses :=
  fun s b => ⟨zext16_toNat b, zpMask_indexed_toNat s b s.x, zpMask_indexed_toNat s b s.y⟩

/-- Settles O18: the index is added to the joined operand bytes modulo 0x10000. -/
theorem absoluteIndexedAddresses : Obligations.AbsoluteIndexedAddresses := by
  intro s b1 b2
  have habs := fun i => joinBytes_toNat b2 b1 ▸ add_zext16_toNat (joinBytes b2 b1) i
  exact ⟨habs s.x, habs s.y, rfl, rfl⟩

/-- Settles O19: both modes read a zero-page pointer, `(zp,X)` at the indexed address and `(zp),Y` at the operand. -/
theorem pointerAddresses : Obligations.PointerAddresses := by
  intro s b q0 q1 r0 r1 hq0 hq1 hr0 hr1
  constructor
  · refine zpPointer_toNat (hq0.trans (zpMask_indexed_toNat s b s.x).symm) ?_
    rw [zpMask_indexed_toNat]
    split at hq1
    · next hwrap => rw [if_pos hwrap, if_pos hwrap, Nat.mod_add_mod, hq1]
    · next hplain => rw [if_neg hplain, if_neg hplain, hq1]
  · have hbase : (baseIzy s b).toNat = 0x100 * (s.read r1).toNat + (s.read r0).toNat :=
      zpPointer_toNat (by rw [zext16_toNat, hr0]) (by rw [zext16_toNat, hr1])
    rw [eaIzy, add_zext16_toNat, hbase]

end

section
/-! PROOFS. The accumulator/ALU instructions (40_alu.md) with the loads, stores and compares of the other registers: the
arithmetic of addition and subtraction, and for each family what every operand form of it does. -/

namespace Sys2Proof.Machine

open Sys2Proof.Safety

/-! ## Binary addition and subtraction (rules R121, R122) -/

theorem and_0x80_ne_zero (x : Byte) : x &&& 0x80 ≠ 0 ↔ x.getLsbD 7 = true := by
  have hmask : x &&& 0x80 = if x.getLsbD 7 then 0x80 else 0 := BitVec.and_twoPow x 7
  rw [hmask]
  cases x.getLsbD 7 <;> decide

/-- The signed value of a byte, in the terms `omega` knows. -/
theorem byte_toInt (x : Byte) : x.toInt = if x.toNat < 128 then (x.toNat : Int) else x.toNat - 256 := by
  rw [BitVec.toInt_eq_toNat_cond]
  split <;> split <;> omega

theorem byte_getLsbD_seven (x : Byte) : x.getLsbD 7 = decide (128 ≤ x.toNat) := BitVec.getLsbD_last x

theorem xor_0xFF_toNat (m : Byte) : (m ^^^ 0xFF).toNat = 255 - m.toNat := by
  have hnot : m ^^^ 0xFF = ~~~m := BitVec.xor_allOnes
  rw [hnot, BitVec.toNat_not]

/-- The complement of `m` is `-m - 1` as a signed value. -/
theorem xor_0xFF_toInt (m : Byte) : (m ^^^ 0xFF).toInt = -m.toInt - 1 := by
  have hm : m.toNat < 256 := m.isLt
  rw [byte_toInt, byte_toInt, xor_0xFF_toNat]
  split <;> split <;> omega

theorem addCore_r_toNat (a m : Byte) (c : Bool) :
    (addCore a m c).r.toNat = (a.toNat + m.toNat + c.toNat) % 256 := BitVec.toNat_ofNat _ 8

theorem addCore_c_iff (a m : Byte) (c : Bool) : (addCore a m c).c = true ↔ a.toNat + m.toNat + c.toNat > 255 :=
  decide_eq_true_iff

theorem addCore_v_iff_mask (a m : Byte) (c : Bool) : (addCore a m c).v = true ↔
    (a ^^^ (addCore a m c).r) &&& (m ^^^ (addCore a m c).r) &&& 0x80 ≠ 0 := decide_eq_true_iff

theorem addCore_v_iff_sign (a m : Byte) (c : Bool) : (addCore a m c).v = true ↔
    a.getLsbD 7 = m.getLsbD 7 ∧ (addCore a m c).r.getLsbD 7 ≠ a.getLsbD 7 := by
  have hbits : ∀ a m r : Bool, ((a ^^ r) && (m ^^ r)) = true ↔ a = m ∧ r ≠ a := by decide
  rw [addCore_v_iff_mask, and_0x80_ne_zero, BitVec.getLsbD_and, BitVec.getLsbD_xor, BitVec.getLsbD_xor, hbits]

/-- The sign of the result is wrong exactly when the signed sum does not fit. -/
theorem addCore_v_iff_range (a m : Byte) (c : Bool) : (addCore a m c).v = true ↔
    a.toInt + m.toInt + (c.toNat : Int) < -128 ∨ a.toInt + m.toInt + (c.toNat : Int) > 127 := by
  have ha : a.toNat < 256 := a.isLt
  have hm : m.toNat < 256 := m.isLt
  have hc : c.toNat ≤ 1 := c.toNat_le
  rw [addCore_v_iff_sign, byte_getLsbD_seven, byte_getLsbD_seven, byte_getLsbD_seven, addCore_r_toNat, byte_toInt,
    byte_toInt, ne_eq, decide_eq_decide, decide_eq_decide]
  split <;> split <;> omega

theorem subCore_r_toNat (a m : Byte) (c : Bool) : ((subCore a m c).r.toNat : Int) =
    ((a.toNat : Int) - m.toNat - (1 - (c.toNat : Int))) % 256 := by
  have hm : m.toNat < 256 := m.isLt
  rw [subCore, addCore_r_toNat, xor_0xFF_toNat]
  omega

theorem subCore_r_eq (a m : Byte) (c : Bool) : (subCore a m c).r = differenceByte a m c := by
  apply BitVec.eq_of_toNat_eq
  rw [differenceByte, BitVec.toNat_ofInt]
  have hr := subCore_r_toNat a m c
  omega

theorem subCore_c_iff (a m : Byte) (c : Bool) : (subCore a m c).c = true ↔
    (a.toNat : Int) - m.toNat - (1 - (c.toNat : Int)) ≥ 0 := by
  have hm : m.toNat < 256 := m.isLt
  rw [subCore, addCore_c_iff, xor_0xFF_toNat]
  omega

theorem subCore_v_iff_mask (a m : Byte) (c : Bool) : (subCore a m c).v = true ↔
    (a ^^^ m) &&& (a ^^^ (subCore a m c).r) &&& 0x80 ≠ 0 := by
  have hsign : (m ^^^ 0xFF).getLsbD 7 = !m.getLsbD 7 := BitVec.getLsbD_xor.trans (Bool.xor_true _)
  have hbits : ∀ a m r : Bool, (a = !m) ∧ r ≠ a ↔ ((a ^^ m) && (a ^^ r)) = true := by decide
  rw [and_0x80_ne_zero, BitVec.getLsbD_and, BitVec.getLsbD_xor, BitVec.getLsbD_xor, subCore, addCore_v_iff_sign, hsign,
    hbits]

/-- The signed difference is the signed sum with the complement. -/
theorem subCore_v_iff_range (a m : Byte) (c : Bool) : (subCore a m c).v = true ↔
    a.toInt - m.toInt - (1 - (c.toNat : Int)) < -128 ∨ a.toInt - m.toInt - (1 - (c.toNat : Int)) > 127 := by
  rw [subCore, addCore_v_iff_range, xor_0xFF_toInt]
  omega

end Sys2Proof.Machine

namespace Sys2Proof.Safety

open Sys2Proof.Machine

/-! ## Flags after an operation -/

theorem flagsNZ_setNZ (s : State) (v : Byte) : FlagsNZ (s.setNZ v) v := ⟨s.flag_setNZ v .n, s.flag_setNZ v .z⟩

theorem flagsExcept_setNZ (s : State) (v : Byte) : FlagsExcept [.n, .z] s (s.setNZ v) := by
  intro g hg
  simp only [List.mem_cons, List.not_mem_nil, or_false, not_or] at hg
  obtain ⟨hn, hz⟩ := hg
  rw [State.flag_setNZ, if_neg hz, if_neg hn]

theorem flagsNZ_setSum (s : State) (u : Sum) : FlagsNZ (s.setSum u) u.r := ⟨s.flag_setSum u .n, s.flag_setSum u .z⟩

theorem flagsExcept_setSum (s : State) (u : Sum) : FlagsExcept [.n, .v, .z, .c] s (s.setSum u) := by
  intro g hg
  simp only [List.mem_cons, List.not_mem_nil, or_false, not_or] at hg
  obtain ⟨hn, hv, hz, hc⟩ := hg
  rw [State.flag_setSum, if_neg hz, if_neg hn, if_neg hv, if_neg hc]

theorem flagsExcept_compare (s : State) (reg m : Byte) : FlagsExcept [.c, .z, .n] s (s.compare reg m) := by
  intro g hg
  simp only [List.mem_cons, List.not_mem_nil, or_false, not_or] at hg
  obtain ⟨hc, hz, hn⟩ := hg
  rw [State.flag_compare, if_neg hn, if_neg hz, if_neg hc]

theorem addFlags_setSum (s : State) (a m : Byte) (c : Bool) : AddFlags (s.setSum (addCore a m c)) a m c :=
  ⟨s.flag_setSum _ .c, s.flag_setSum _ .v ▸ addCore_v_iff_range a m c⟩

theorem subFlags_setSum (s : State) (a m : Byte) (c : Bool) : SubFlags (s.setSum (subCore a m c)) a m c :=
  ⟨(s.flag_setSum _ .c).trans (Bool.eq_iff_iff.mpr ((subCore_c_iff a m c).trans decide_eq_true_iff.symm)),
    s.flag_setSum _ .v ▸ subCore_v_iff_range a m c⟩

/-! ## What a form with an effective address does -/

/-- The effective address of a form, as an access of the machine. -/
def Form.access (f : Form) : Access := { ea := f.ea, crossed := f.crossed, len := f.len }

/-- The form has its opcode, and in `s` its instruction retires at the form's access from `u`. -/
structure Form.RunsTo (f : Form) (s u : State) : Prop where
  opcode_eq : f.instr.opcode = f.opcode
  exec_eq : exec f.instr s = .next (retireAt f.opcode f.access u)

/-- The form has its opcode, and in `s` its instruction stores `v` at the form's access. -/
structure Form.RunsStore (f : Form) (s : State) (v : Byte) : Prop where
  opcode_eq : f.instr.opcode = f.opcode
  exec_eq : exec f.instr s = storeOp f.opcode f.access v s

section

variable {f : Form} {s : State}

/-- The frame of a form that changes A, X, Y and P only. -/
theorem Form.RunsTo.frame {a x y p : Byte} (h : f.RunsTo s { s with a := a, x := x, y := y, p := p }) :
    MemSame s (retireAt f.opcode f.access { s with a := a, x := x, y := y, p := p }) ∧
      f.Retired s (retireAt f.opcode f.access { s with a := a, x := x, y := y, p := p }) :=
  ⟨fun _ => rfl, h.opcode_eq, rfl, rfl, rfl, ⟨rfl, rfl, rfl, rfl⟩, elsewhere_refl s⟩

theorem Form.RunsTo.reads {a x y v : Byte} (h : f.RunsTo s (({ s with a := a, x := x, y := y } : State).setNZ v)) :
    f.Reads s a x y s.sp v :=
  ⟨_, h.exec_eq, ⟨rfl, rfl, rfl, rfl⟩, flagsNZ_setNZ _ v, flagsExcept_setNZ _ v, h.frame⟩

theorem Form.RunsTo.compares {reg : Byte} (h : f.RunsTo s (s.compare reg f.operand)) : f.Compares s reg :=
  ⟨_, h.exec_eq, s.flag_compare reg f.operand .c, s.flag_compare reg f.operand .z, s.flag_compare reg f.operand .n,
    flagsExcept_compare s reg f.operand, ⟨rfl, rfl, rfl, rfl⟩, h.frame⟩

theorem Form.RunsStore.stores {v : Byte} (h : f.RunsStore s v) : f.Stores s v :=
  ⟨_, h.exec_eq, ⟨rfl, rfl, rfl, rfl⟩, fun _ _ => rfl, memStored_write s f.ea v,
    h.opcode_eq, rfl, rfl, rfl, ⟨rfl, rfl, rfl, rfl⟩, elsewhere_refl s⟩

end

/-! ## The forms of each instruction

Each list names the instruction's own operation; that every form runs it is one arm of `exec` per form. -/

section

variable (s : State) (b : Byte) (w : Word)

theorem oraForms_run : ∀ f ∈ oraForms s b w, f.RunsTo s (opOra f.operand s) :=
  List.forall_iff_forall_mem.mp
    ⟨⟨rfl, rfl⟩, ⟨rfl, rfl⟩, ⟨rfl, rfl⟩, ⟨rfl, rfl⟩, ⟨rfl, rfl⟩, ⟨rfl, rfl⟩, ⟨rfl, rfl⟩, ⟨rfl, rfl⟩⟩

theorem andForms_run : ∀ f ∈ andForms s b w, f.RunsTo s (opAnd f.operand s) :=
  List.forall_iff_forall_mem.mp
    ⟨⟨rfl, rfl⟩, ⟨rfl, rfl⟩, ⟨rfl, rfl⟩, ⟨rfl, rfl⟩, ⟨rfl, rfl⟩, ⟨rfl, rfl⟩, ⟨rfl, rfl⟩, ⟨rfl, rfl⟩⟩

theorem eorForms_run : ∀ f ∈ eorForms s b w, f.RunsTo s (opEor f.operand s) :=
  List.forall_iff_forall_mem.mp
    ⟨⟨rfl, rfl⟩, ⟨rfl, rfl⟩, ⟨rfl, rfl⟩, ⟨rfl, rfl⟩, ⟨rfl, rfl⟩, ⟨rfl, rfl⟩, ⟨rfl, rfl⟩, ⟨rfl, rfl⟩⟩

theorem adcForms_run : ∀ f ∈ adcForms s b w, f.RunsTo s (opAdc f.operand s) :=
  List.forall_iff_forall_mem.mp
    ⟨⟨rfl, rfl⟩, ⟨rfl, rfl⟩, ⟨rfl, rfl⟩, ⟨rfl, rfl⟩, ⟨rfl, rfl⟩, ⟨rfl, rfl⟩, ⟨rfl, rfl⟩, ⟨rfl, rfl⟩⟩

theorem sbcForms_run : ∀ f ∈ sbcForms s b w, f.RunsTo s (opSbc f.operand s) :=
  List.forall_iff_forall_mem.mp
    ⟨⟨rfl, rfl⟩, ⟨rfl, rfl⟩, ⟨rfl, rfl⟩, ⟨rfl, rfl⟩, ⟨rfl, rfl⟩, ⟨rfl, rfl⟩, ⟨rfl, rfl⟩, ⟨rfl, rfl⟩, ⟨rfl, rfl⟩⟩

theorem ldaForms_run : ∀ f ∈ ldaForms s b w, f.RunsTo s (opLda f.operand s) :=
  List.forall_iff_forall_mem.mp
    ⟨⟨rfl, rfl⟩, ⟨rfl, rfl⟩, ⟨rfl, rfl⟩, ⟨rfl, rfl⟩, ⟨rfl, rfl⟩, ⟨rfl, rfl⟩, ⟨rfl, rfl⟩, ⟨rfl, rfl⟩⟩

theorem ldxForms_run : ∀ f ∈ ldxForms s b w, f.RunsTo s (opLdx f.operand s) :=
  List.forall_iff_forall_mem.mp ⟨⟨rfl, rfl⟩, ⟨rfl, rfl⟩, ⟨rfl, rfl⟩, ⟨rfl, rfl⟩, ⟨rfl, rfl⟩⟩

theorem ldyForms_run : ∀ f ∈ ldyForms s b w, f.RunsTo s (opLdy f.operand s) :=
  List.forall_iff_forall_mem.mp ⟨⟨rfl, rfl⟩, ⟨rfl, rfl⟩, ⟨rfl, rfl⟩, ⟨rfl, rfl⟩, ⟨rfl, rfl⟩⟩

theorem laxForms_run : ∀ f ∈ laxForms s b w, f.RunsTo s (opLax f.operand s) :=
  List.forall_iff_forall_mem.mp ⟨⟨rfl, rfl⟩, ⟨rfl, rfl⟩, ⟨rfl, rfl⟩, ⟨rfl, rfl⟩, ⟨rfl, rfl⟩, ⟨rfl, rfl⟩⟩

theorem cmpForms_run : ∀ f ∈ cmpForms s b w, f.RunsTo s (opCmp f.operand s) :=
  List.forall_iff_forall_mem.mp
    ⟨⟨rfl, rfl⟩, ⟨rfl, rfl⟩, ⟨rfl, rfl⟩, ⟨rfl, rfl⟩, ⟨rfl, rfl⟩, ⟨rfl, rfl⟩, ⟨rfl, rfl⟩, ⟨rfl, rfl⟩⟩

theorem cpyForms_run : ∀ f ∈ cpyForms s b w, f.RunsTo s (opCpy f.operand s) :=
  List.forall_iff_forall_mem.mp ⟨⟨rfl, rfl⟩, ⟨rfl, rfl⟩, ⟨rfl, rfl⟩⟩

theorem cpxForms_run : ∀ f ∈ cpxForms s b w, f.RunsTo s (opCpx f.operand s) :=
  List.forall_iff_forall_mem.mp ⟨⟨rfl, rfl⟩, ⟨rfl, rfl⟩, ⟨rfl, rfl⟩⟩

theorem staForms_run : ∀ f ∈ staForms s b w, f.RunsStore s s.a :=
  List.forall_iff_forall_mem.mp ⟨⟨rfl, rfl⟩, ⟨rfl, rfl⟩, ⟨rfl, rfl⟩, ⟨rfl, rfl⟩, ⟨rfl, rfl⟩, ⟨rfl, rfl⟩, ⟨rfl, rfl⟩⟩

theorem stxForms_run : ∀ f ∈ stxForms s b w, f.RunsStore s s.x :=
  List.forall_iff_forall_mem.mp ⟨⟨rfl, rfl⟩, ⟨rfl, rfl⟩, ⟨rfl, rfl⟩⟩

theorem styForms_run : ∀ f ∈ styForms s b w, f.RunsStore s s.y :=
  List.forall_iff_forall_mem.mp ⟨⟨rfl, rfl⟩, ⟨rfl, rfl⟩, ⟨rfl, rfl⟩⟩

theorem saxForms_run : ∀ f ∈ saxForms s b w, f.RunsStore s (s.a &&& s.x) :=
  List.forall_iff_forall_mem.mp ⟨⟨rfl, rfl⟩, ⟨rfl, rfl⟩, ⟨rfl, rfl⟩, ⟨rfl, rfl⟩⟩

end

end Sys2Proof.Safety

open Sys2Proof Sys2Proof.Machine Sys2Proof.Safety

/-- Settles O15: the result and the carry are those of the sum of natural numbers; the three forms of the overflow agree
by the sign bits of the operands and of the result. -/
theorem addCoreIsBinaryAddition : Obligations.AddCoreIsBinaryAddition :=
  fun a m c => ⟨addCore_r_toNat a m c, addCore_c_iff a m c, addCore_v_iff_mask a m c,
    addCore_v_iff_sign a m c, addCore_v_iff_range a m c⟩

/-- Settles O16: the complement of `m` is 255 - m, and its sign bit the other one. -/
theorem subCoreIsBinarySubtraction : Obligations.SubCoreIsBinarySubtraction :=
  fun a m c => ⟨rfl, subCore_r_toNat a m c, subCore_c_iff a m c, subCore_v_iff_mask a m c⟩

/-- Settles O20: every form runs the operation, which sets A to the result and N and Z from it. -/
theorem logicResults : Obligations.LogicResults :=
  fun s b w => ⟨fun f hf => (oraForms_run s b w f hf).reads, fun f hf => (andForms_run s b w f hf).reads,
    fun f hf => (eorForms_run s b w f hf).reads⟩

/-- Settles O21: every form runs `AddCore`, whose overflow is the signed range. -/
theorem adcResult : Obligations.AdcResult := by
  intro s b w f hf
  have hrun := adcForms_run s b w f hf
  exact ⟨_, hrun.exec_eq, ⟨rfl, rfl, rfl, rfl⟩, addFlags_setSum s s.a f.operand (s.flag .c), flagsNZ_setSum s _,
    flagsExcept_setSum s _, hrun.frame⟩

/-- Settles O22: every form runs `SubCore`, whose result, carry and overflow are those of the difference. -/
theorem sbcResult : Obligations.SbcResult := by
  intro s b w f hf
  have hrun := sbcForms_run s b w f hf
  rw [← subCore_r_eq]
  exact ⟨_, hrun.exec_eq, ⟨rfl, rfl, rfl, rfl⟩, subFlags_setSum s s.a f.operand (s.flag .c), flagsNZ_setSum s _,
    flagsExcept_setSum s _, hrun.frame⟩

/-- Settles O23: every form runs the load, which sets the destination to the operand and N and Z from it. -/
theorem loadResults : Obligations.LoadResults :=
  fun s b w => ⟨fun f hf => (ldaForms_run s b w f hf).reads, fun f hf => (ldxForms_run s b w f hf).reads,
    fun f hf => (ldyForms_run s b w f hf).reads, fun f hf => (laxForms_run s b w f hf).reads⟩

/-- Settles O24: every form stores the register at its effective address. -/
theorem storeResults : Obligations.StoreResults :=
  fun s b w => ⟨fun f hf => (staForms_run s b w f hf).stores, fun f hf => (stxForms_run s b w f hf).stores,
    fun f hf => (styForms_run s b w f hf).stores, fun f hf => (saxForms_run s b w f hf).stores⟩

/-- Settles O25: every form runs `Compare` on its register. -/
theorem compareResults : Obligations.CompareResults :=
  fun s b w => ⟨fun f hf => (cmpForms_run s b w f hf).compares, fun f hf => (cpyForms_run s b w f hf).compares,
    fun f hf => (cpxForms_run s b w f hf).compares⟩

end

section
/-! PROOFS. The shift/register instructions (41_shift_register.md): the shifts and counts of a byte as numbers, and what
the read-modify-write forms and the one-byte instructions do; also the transfers and counts of 42_stack_flag.md and the
undocumented NOPs of 44_undocumented.md. -/

namespace Sys2Proof.Machine

/-! ## The shifts of a byte as numbers (rules R141 to R144) -/

theorem byte_shiftLeft_one (v : Byte) : v <<< 1 = BitVec.ofNat 8 (2 * v.toNat) := by
  apply BitVec.eq_of_toNat_eq
  rw [BitVec.toNat_shiftLeft, BitVec.toNat_ofNat, Nat.shiftLeft_eq, Nat.mul_comm]

theorem byte_ushiftRight_one (v : Byte) : v >>> 1 = BitVec.ofNat 8 (v.toNat / 2) := by
  apply BitVec.eq_of_toNat_eq
  rw [BitVec.toNat_ushiftRight, BitVec.toNat_ofNat, Nat.shiftRight_eq_div_pow]
  omega

theorem shiftAsl_eq (v : Byte) (c : Bool) : shiftAsl v c = ⟨BitVec.ofNat 8 (2 * v.toNat), v.getLsbD 7⟩ :=
  congrArg (Shifted.mk · (v.getLsbD 7)) (byte_shiftLeft_one v)

/-- The old carry enters bit 0, which the shift has left 0: the two parts add up without a carry. -/
theorem shiftRol_eq (v : Byte) (c : Bool) :
    shiftRol v c = ⟨BitVec.ofNat 8 (2 * v.toNat + c.toNat), v.getLsbD 7⟩ := by
  have hcarry : (BitVec.ofBool c).zeroExtend 8 = BitVec.ofNat 8 c.toNat := by cases c <;> rfl
  have hsum : 2 * v.toNat + c.toNat = 2 * v.toNat ||| c.toNat := Nat.two_pow_add_eq_or_of_lt (i := 1) c.toNat_lt v.toNat
  rw [hsum, BitVec.ofNat_or, ← byte_shiftLeft_one, ← hcarry]
  rfl

theorem shiftLsr_eq (v : Byte) (c : Bool) : shiftLsr v c = ⟨BitVec.ofNat 8 (v.toNat / 2), v.getLsbD 0⟩ :=
  congrArg (Shifted.mk · (v.getLsbD 0)) (byte_ushiftRight_one v)

/-- The old carry enters bit 7, which the shift has left 0: the two parts add up without a carry. -/
theorem shiftRor_eq (v : Byte) (c : Bool) :
    shiftRor v c = ⟨BitVec.ofNat 8 (v.toNat / 2 + 128 * c.toNat), v.getLsbD 0⟩ := by
  have hcarry : (BitVec.ofBool c).zeroExtend 8 <<< 7 = BitVec.ofNat 8 (128 * c.toNat) := by cases c <;> rfl
  have hhalf : v.toNat / 2 < 2 ^ 7 := by omega
  have hsum : v.toNat / 2 + 128 * c.toNat = v.toNat / 2 ||| 128 * c.toNat := by
    rw [Nat.add_comm, Nat.or_comm]
    exact Nat.two_pow_add_eq_or_of_lt hhalf c.toNat
  rw [hsum, BitVec.ofNat_or, ← byte_ushiftRight_one, ← hcarry]
  rfl

/-! ## Counting modulo 256 (rules R147, R148, R153, R176, R178, R179) -/

theorem byte_sub_one (m : Byte) : m - 1 = BitVec.ofNat 8 (m.toNat + 255) := by
  rw [BitVec.ofNat_add, BitVec.ofNat_toNat, BitVec.setWidth_eq, BitVec.sub_eq_add_neg]
  rfl

theorem byte_add_one (m : Byte) : m + 1 = BitVec.ofNat 8 (m.toNat + 1) := by
  rw [BitVec.ofNat_add, BitVec.ofNat_toNat, BitVec.setWidth_eq]
  rfl

theorem byte_eq_sub_one {r m : Byte} (h : r.toNat = (m.toNat + 255) % 256) : r = m - 1 :=
  BitVec.eq_of_toNat_eq (by rw [byte_sub_one, h, BitVec.toNat_ofNat])

theorem byte_eq_add_one {r m : Byte} (h : r.toNat = (m.toNat + 1) % 256) : r = m + 1 :=
  BitVec.eq_of_toNat_eq (by rw [byte_add_one, h, BitVec.toNat_ofNat])

/-! ## The flags after a shift -/

/-- `P.C <- c', SetNZ(r)` of a shift (rules R141 to R144). -/
def State.setShifted (s : State) (u : Shifted) : State := (s.setFlag .c u.c).setNZ u.r

/-- The effect of a shift of A before the instruction retires: the result in A, then the flags. -/
def State.shiftedA (s : State) (u : Shifted) : State := (s.setA u.r).setShifted u

theorem State.flag_setShifted (s : State) (u : Shifted) (g : Flag) :
    (s.setShifted u).flag g =
      if g = .z then decide (u.r = 0) else if g = .n then bit7 u.r else if g = .c then u.c else s.flag g := by
  rw [State.setShifted, State.flag_setNZ, State.flag_setFlag]

/-- Writing a flag its own value changes nothing. -/
theorem State.setFlag_self (s : State) (f : Flag) : s.setFlag f (s.flag f) = s := by
  have hp : putFlag s.p f (s.flag f) = s.p := eq_of_getFlag fun g => by
    rw [getFlag_putFlag]
    split
    · next hg => rw [hg]; rfl
    · rfl
  rw [State.setFlag, hp]
  rfl

end Sys2Proof.Machine

namespace Sys2Proof.Safety

open Sys2Proof.Machine

theorem flagsNZ_setShifted (s : State) (u : Shifted) : FlagsNZ (s.setShifted u) u.r :=
  ⟨s.flag_setShifted u .n, s.flag_setShifted u .z⟩

theorem flagsExcept_setShifted (s : State) (u : Shifted) : FlagsExcept [.n, .z, .c] s (s.setShifted u) := by
  intro g hg
  simp only [List.mem_cons, List.not_mem_nil, or_false, not_or] at hg
  obtain ⟨hn, hz, hc⟩ := hg
  rw [State.flag_setShifted, if_neg hz, if_neg hn, if_neg hc]

/-! ## What a read-modify-write form does -/

/-- The effect of a shift of memory before the instruction retires: the result stored, then the flags. -/
def Form.shifted (f : Form) (s : State) (u : Shifted) : State := (s.write f.ea u.r).setShifted u

section

variable {f : Form} {s : State} {r : Byte}

theorem Form.RunsTo.shifts {c : Bool} (h : f.RunsTo s (f.shifted s ⟨r, c⟩)) : f.Shifts s r c :=
  ⟨_, h.exec_eq, memStored_write s f.ea r, State.flag_setShifted _ ⟨r, c⟩ .c, flagsNZ_setShifted _ ⟨r, c⟩,
    flagsExcept_setShifted (s.write f.ea r) ⟨r, c⟩, ⟨rfl, rfl, rfl, rfl⟩,
    h.opcode_eq, rfl, rfl, rfl, ⟨rfl, rfl, rfl, rfl⟩, elsewhere_refl s⟩

/-- INC and DEC are shifts that leave the carry as it is. -/
theorem Form.RunsTo.counts (h : f.RunsTo s ((s.write f.ea r).setNZ r)) : f.Shifts s r (s.flag .c) := by
  have hcarry : f.shifted s ⟨r, s.flag .c⟩ = (s.write f.ea r).setNZ r :=
    congrArg (State.setNZ · r) (State.setFlag_self (s.write f.ea r) .c)
  exact Form.RunsTo.shifts (hcarry ▸ h)

end

/-! ## What a one-byte instruction does -/

/-- `i` has the opcode byte `op`, and in `s` it retires from `u` as a one-byte instruction. -/
structure RunsAlone (i : Instr) (op : Byte) (s u : State) : Prop where
  opcode_eq : i.opcode = op
  exec_eq : exec i s = .next (freeAddr (retire op 1 false false u))

section

variable {i : Instr} {op : Byte} {s : State} {a x y : Byte}

/-- The frame of a one-byte instruction that changes A, X, Y, SP and P only. -/
theorem RunsAlone.frame {sp p : Byte} (h : RunsAlone i op s { s with a := a, x := x, y := y, sp := sp, p := p }) :
    MemSame s (freeAddr (retire op 1 false false { s with a := a, x := x, y := y, sp := sp, p := p })) ∧
      RetiredAlone i op s (freeAddr (retire op 1 false false { s with a := a, x := x, y := y, sp := sp, p := p })) :=
  ⟨fun _ => rfl, h.opcode_eq, rfl, ⟨rfl, rfl, rfl, rfl⟩, elsewhere_refl s⟩

theorem RunsAlone.moves {sp v : Byte}
    (h : RunsAlone i op s (({ s with a := a, x := x, y := y, sp := sp } : State).setNZ v)) :
    Moves i op s a x y sp v :=
  ⟨_, h.exec_eq, ⟨rfl, rfl, rfl, rfl⟩, flagsNZ_setNZ _ v, flagsExcept_setNZ _ v, h.frame⟩

theorem RunsAlone.shiftsA {r : Byte} {c : Bool} (h : RunsAlone i op s (s.shiftedA ⟨r, c⟩)) :
    ShiftsA i op s r c :=
  ⟨_, h.exec_eq, ⟨rfl, rfl, rfl, rfl⟩, State.flag_setShifted _ ⟨r, c⟩ .c, flagsNZ_setShifted _ ⟨r, c⟩,
    flagsExcept_setShifted (s.setA r) ⟨r, c⟩, h.frame⟩

end

/-! ## The forms of each instruction

As for the accumulator/ALU instructions: one arm of `exec` per form. -/

section

variable (s : State) (b : Byte) (w : Word)

theorem aslForms_run : ∀ f ∈ aslForms s b w, f.RunsTo s (f.shifted s (shiftAsl f.operand (s.flag .c))) :=
  List.forall_iff_forall_mem.mp ⟨⟨rfl, rfl⟩, ⟨rfl, rfl⟩, ⟨rfl, rfl⟩, ⟨rfl, rfl⟩⟩

theorem rolForms_run : ∀ f ∈ rolForms s b w, f.RunsTo s (f.shifted s (shiftRol f.operand (s.flag .c))) :=
  List.forall_iff_forall_mem.mp ⟨⟨rfl, rfl⟩, ⟨rfl, rfl⟩, ⟨rfl, rfl⟩, ⟨rfl, rfl⟩⟩

theorem lsrForms_run : ∀ f ∈ lsrForms s b w, f.RunsTo s (f.shifted s (shiftLsr f.operand (s.flag .c))) :=
  List.forall_iff_forall_mem.mp ⟨⟨rfl, rfl⟩, ⟨rfl, rfl⟩, ⟨rfl, rfl⟩, ⟨rfl, rfl⟩⟩

theorem rorForms_run : ∀ f ∈ rorForms s b w, f.RunsTo s (f.shifted s (shiftRor f.operand (s.flag .c))) :=
  List.forall_iff_forall_mem.mp ⟨⟨rfl, rfl⟩, ⟨rfl, rfl⟩, ⟨rfl, rfl⟩, ⟨rfl, rfl⟩⟩

theorem decForms_run : ∀ f ∈ decForms s b w, f.RunsTo s ((s.write f.ea (f.operand - 1)).setNZ (f.operand - 1)) :=
  List.forall_iff_forall_mem.mp ⟨⟨rfl, rfl⟩, ⟨rfl, rfl⟩, ⟨rfl, rfl⟩, ⟨rfl, rfl⟩⟩

theorem incForms_run : ∀ f ∈ incForms s b w, f.RunsTo s ((s.write f.ea (f.operand + 1)).setNZ (f.operand + 1)) :=
  List.forall_iff_forall_mem.mp ⟨⟨rfl, rfl⟩, ⟨rfl, rfl⟩, ⟨rfl, rfl⟩, ⟨rfl, rfl⟩⟩

theorem nopForms_run : ∀ f ∈ nopForms s b w, f.RunsTo s s :=
  List.forall_iff_forall_mem.mp
    ⟨⟨rfl, rfl⟩, ⟨rfl, rfl⟩, ⟨rfl, rfl⟩, ⟨rfl, rfl⟩, ⟨rfl, rfl⟩,
      ⟨rfl, rfl⟩, ⟨rfl, rfl⟩, ⟨rfl, rfl⟩,
      ⟨rfl, rfl⟩, ⟨rfl, rfl⟩, ⟨rfl, rfl⟩, ⟨rfl, rfl⟩, ⟨rfl, rfl⟩, ⟨rfl, rfl⟩,
      ⟨rfl, rfl⟩, ⟨rfl, rfl⟩, ⟨rfl, rfl⟩, ⟨rfl, rfl⟩, ⟨rfl, rfl⟩, ⟨rfl, rfl⟩, ⟨rfl, rfl⟩⟩

theorem nopAlone_run : ∀ p ∈ nopAlone, RunsAlone p.1 p.2 s s :=
  List.forall_iff_forall_mem.mp
    ⟨⟨rfl, rfl⟩, ⟨rfl, rfl⟩, ⟨rfl, rfl⟩, ⟨rfl, rfl⟩, ⟨rfl, rfl⟩, ⟨rfl, rfl⟩, ⟨rfl, rfl⟩⟩

theorem aslAcc_run : RunsAlone .aslAcc 0x0A s (s.shiftedA (shiftAsl s.a (s.flag .c))) := ⟨rfl, rfl⟩

theorem rolAcc_run : RunsAlone .rolAcc 0x2A s (s.shiftedA (shiftRol s.a (s.flag .c))) := ⟨rfl, rfl⟩

theorem lsrAcc_run : RunsAlone .lsrAcc 0x4A s (s.shiftedA (shiftLsr s.a (s.flag .c))) := ⟨rfl, rfl⟩

theorem rorAcc_run : RunsAlone .rorAcc 0x6A s (s.shiftedA (shiftRor s.a (s.flag .c))) := ⟨rfl, rfl⟩

end

end Sys2Proof.Safety

open Sys2Proof Sys2Proof.Machine Sys2Proof.Safety

/-- Settles O27: every form runs `shiftAsl`, which doubles modulo 256. -/
theorem aslResult : Obligations.AslResult :=
  fun s b w => ⟨fun f hf => Form.RunsTo.shifts (shiftAsl_eq f.operand _ ▸ aslForms_run s b w f hf),
    RunsAlone.shiftsA (shiftAsl_eq s.a _ ▸ aslAcc_run s)⟩

/-- Settles O28: every form runs `shiftRol`, which doubles and adds the old carry modulo 256. -/
theorem rolResult : Obligations.RolResult :=
  fun s b w => ⟨fun f hf => Form.RunsTo.shifts (shiftRol_eq f.operand _ ▸ rolForms_run s b w f hf),
    RunsAlone.shiftsA (shiftRol_eq s.a _ ▸ rolAcc_run s)⟩

/-- Settles O29: every form runs `shiftLsr`, which halves. -/
theorem lsrResult : Obligations.LsrResult :=
  fun s b w => ⟨fun f hf => Form.RunsTo.shifts (shiftLsr_eq f.operand _ ▸ lsrForms_run s b w f hf),
    RunsAlone.shiftsA (shiftLsr_eq s.a _ ▸ lsrAcc_run s)⟩

/-- Settles O30: every form runs `shiftRor`, which halves and adds the old carry as 128. -/
theorem rorResult : Obligations.RorResult :=
  fun s b w => ⟨fun f hf => Form.RunsTo.shifts (shiftRor_eq f.operand _ ▸ rorForms_run s b w f hf),
    RunsAlone.shiftsA (shiftRor_eq s.a _ ▸ rorAcc_run s)⟩

/-- Settles O31: every form stores the operand one less (one more) and sets N and Z from it. -/
theorem countMemoryResults : Obligations.CountMemoryResults :=
  fun s b w => ⟨fun f hf => byte_sub_one f.operand ▸ (decForms_run s b w f hf).counts,
    fun f hf => byte_add_one f.operand ▸ (incForms_run s b w f hf).counts⟩

/-- Settles O32: each transfer sets its destination, and all but TXS set N and Z from it. -/
theorem transferResults : Obligations.TransferResults := by
  intro s
  have htxs : RunsAlone .txs 0x9A s { s with sp := s.x } := ⟨rfl, rfl⟩
  exact ⟨RunsAlone.moves ⟨rfl, rfl⟩, RunsAlone.moves ⟨rfl, rfl⟩, RunsAlone.moves ⟨rfl, rfl⟩,
    RunsAlone.moves ⟨rfl, rfl⟩, RunsAlone.moves ⟨rfl, rfl⟩,
    _, htxs.exec_eq, ⟨rfl, rfl, rfl, rfl⟩, fun _ _ => rfl, htxs.frame⟩

/-- Settles O33: the byte with the given value is the register one less (one more), and each instruction leaves that. -/
theorem countRegisterResults : Obligations.CountRegisterResults :=
  fun _ _ => ⟨fun hr => byte_eq_sub_one hr ▸ RunsAlone.moves ⟨rfl, rfl⟩,
    fun hr => byte_eq_sub_one hr ▸ RunsAlone.moves ⟨rfl, rfl⟩,
    fun hr => byte_eq_add_one hr ▸ RunsAlone.moves ⟨rfl, rfl⟩,
    fun hr => byte_eq_add_one hr ▸ RunsAlone.moves ⟨rfl, rfl⟩⟩

/-- Settles O34: every NOP retires from the state it starts in. -/
theorem nopResults : Obligations.NopResults := by
  intro s b w
  constructor
  · intro p hp
    have hrun := nopAlone_run s p hp
    exact ⟨_, hrun.exec_eq, ⟨rfl, rfl, rfl, rfl⟩, fun _ _ => rfl, hrun.frame⟩
  · intro f hf
    have hrun := nopForms_run s b w f hf
    exact ⟨_, hrun.exec_eq, ⟨rfl, rfl, rfl, rfl⟩, fun _ _ => rfl, hrun.frame⟩

end

section
/-! PROOFS. The stack instructions (42_stack_flag.md rules R170 to R175): the slots by their addresses, what a one-byte
instruction that pushes does, and what PLA and PLP pull. -/

namespace Sys2Proof.Machine

theorem eq_stackSlot {c : Word} {sp : Byte} (h : c.toNat = 0x100 + sp.toNat) : c = stackSlot sp :=
  BitVec.eq_of_toNat_eq (h.trans (stackSlot_toNat sp).symm)

/-- The slot above SP, with the wrap inside the stack page (rule R171). -/
theorem eq_stackSlot_succ {c : Word} {sp : Byte} (h : c.toNat = 0x100 + (sp.toNat + 1) % 256) :
    c = stackSlot (sp + 1) :=
  eq_stackSlot (h.trans (congrArg (0x100 + ·) (BitVec.toNat_add sp 1).symm))

end Sys2Proof.Machine

namespace Sys2Proof.Safety

open Sys2Proof.Machine

theorem memStored_push (s : State) (v : Byte) : MemStored (stackSlot s.sp) v s (s.push v) :=
  memStored_write s (stackSlot s.sp) v

theorem flagsExcept_of_p_eq {s t : State} (fs : List Flag) (h : t.p = s.p) : FlagsExcept fs s t :=
  fun f _ => congrArg (getFlag · f) h

/-- A one-byte instruction that only pushes keeps all of P. -/
theorem RunsAlone.pushes {i : Instr} {op v : Byte} {s : State} (h : RunsAlone i op s (s.push v)) :
    Completes i s fun t =>
      MemStored (stackSlot s.sp) v s t ∧ Regs t s.a s.x s.y (s.sp - 1) ∧ t.p = s.p ∧ RetiredAlone i op s t :=
  ⟨_, h.exec_eq, memStored_push s v, ⟨rfl, rfl, rfl, rfl⟩, rfl, h.opcode_eq, rfl, ⟨rfl, rfl, rfl, rfl⟩,
    elsewhere_refl s⟩

section

variable (s : State)

theorem pha_run : RunsAlone .pha 0x48 s (s.push s.a) := ⟨rfl, rfl⟩

theorem pla_run : RunsAlone .pla 0x68 s ((s.dropTop.setA s.pulled).setNZ s.pulled) := ⟨rfl, rfl⟩

theorem php_run : RunsAlone .php 0x08 s (s.push (s.p ||| s.params.pushOrMask)) := ⟨rfl, rfl⟩

theorem plp_run : RunsAlone .plp 0x28 s (s.dropTop.setP s.pulled) := ⟨rfl, rfl⟩

end

end Sys2Proof.Safety

open Sys2Proof Sys2Proof.Machine Sys2Proof.Safety

/-- Settles O35: `slot` is the slot SP names, and `next` the one SP names after moving up, which holds the byte
pulled. -/
theorem phaAndPlaResults : Obligations.PhaAndPlaResults := by
  intro s slot next hslot hnext
  obtain rfl : slot = stackSlot s.sp := eq_stackSlot hslot
  obtain rfl : next = stackSlot (s.sp + 1) := eq_stackSlot_succ hnext
  constructor
  · obtain ⟨t, hexec, hmem, hregs, hp, hret⟩ := (pha_run s).pushes
    exact ⟨t, hexec, hmem, hregs, flagsExcept_of_p_eq [] hp, hret⟩
  · exact RunsAlone.moves (pla_run s)

/-- Settles O36: PHP only pushes; PLP's new P is the byte pulled from the slot SP names after moving up. -/
theorem phpAndPlpResults : Obligations.PhpAndPlpResults := by
  intro s slot next hslot hnext
  obtain rfl : slot = stackSlot s.sp := eq_stackSlot hslot
  obtain rfl : next = stackSlot (s.sp + 1) := eq_stackSlot_succ hnext
  have hplp := plp_run s
  obtain ⟨hmem, hret⟩ := hplp.frame
  exact ⟨(php_run s).pushes, _, hplp.exec_eq, rfl, ⟨rfl, rfl, rfl, rfl⟩, hmem, hret⟩

end

section
/-! PROOFS. The control instructions (43_control.md): BIT, the branches and the jumps, and the instructions that move PC
through the stack, BRK, JSR, RTI and RTS. -/

namespace Sys2Proof

theorem hiByte_toNat (w : Word) : (hiByte w).toNat = w.toNat / 0x100 := by
  have hw : w.toNat < 0x10000 := w.isLt
  rw [hiByte, BitVec.extractLsb'_toNat, Nat.shiftRight_eq_div_pow]
  omega

theorem loByte_toNat (w : Word) : (loByte w).toNat = w.toNat % 0x100 := BitVec.extractLsb'_toNat 0 8 w

end Sys2Proof

namespace Sys2Proof.Machine

open Sys2Proof.Safety

/-! ## Targets (rules R95, R96) -/

/-- The target of a branch as a number, from the signed value of its offset. -/
theorem branchTarget_eq (pc : Word) (b : Byte) :
    branchTarget pc b = BitVec.ofInt 16 ((pc.toNat : Int) + 2 + b.toInt) := by
  rw [BitVec.ofInt_add, BitVec.ofInt_add, BitVec.ofInt_natCast, BitVec.ofNat_toNat, BitVec.setWidth_eq]
  rfl

/-- The high byte of an indirect target is read from `hi`: the next byte of the same page under JMP_IND_PAGE_WRAP, and
the next one of memory without. -/
theorem indirectTarget_eq {s : State} {w hi : Word}
    (h : hi.toNat = if s.params.jmpIndPageWrap then w.toNat / 0x100 * 0x100 + (w.toNat + 1) % 0x100
      else (w.toNat + 1) % 0x10000) :
    indirectTarget s w = joinBytes (s.read hi) (s.read w) := by
  rw [indirectTarget]
  split at h
  · next hwrap =>
    have hhi : hi = joinBytes (hiByte w) (loByte w + 1) := by
      apply BitVec.eq_of_toNat_eq
      have hlo : (loByte w + 1).toNat = (w.toNat % 0x100 + 1) % 0x100 :=
        loByte_toNat w ▸ BitVec.toNat_add (loByte w) 1
      rw [joinBytes_toNat, hiByte_toNat, hlo]
      omega
    rw [if_pos hwrap, hhi]
  · next hplain =>
    have hhi : hi = w + 1 := BitVec.eq_of_toNat_eq (h.trans (BitVec.toNat_add w 1).symm)
    rw [if_neg hplain, hhi, State.readWord]

/-! ## Flags -/

/-- The status byte after BIT (rule R215). -/
def putBit (p a v : Byte) : Byte :=
  putFlag (putFlag (putFlag p .z (decide (a &&& v = 0))) .n (bit7 v)) .v (v.getLsbD 6)

theorem opBit_eq_setP (v : Byte) (s : State) : opBit v s = s.setP (putBit s.p s.a v) := by
  simp [opBit, putBit, State.setFlag, State.setP]

theorem getFlag_putBit (p a v : Byte) (g : Flag) :
    getFlag (putBit p a v) g =
      if g = .v then v.getLsbD 6 else if g = .n then bit7 v else if g = .z then decide (a &&& v = 0)
      else getFlag p g := by
  simp only [putBit, getFlag_putFlag]

/-! ## The slots below the stack pointer (rules R170, R209, R210) -/

theorem stackSlot_sub_ne (sp : Byte) {n : Byte} (hn : n ≠ 0) : stackSlot sp ≠ stackSlot (sp - n) :=
  fun h => hn (sub_eq_self.mp (stackSlot_injective h).symm)

/-- An address past the stack page is no stack slot. -/
theorem ne_stackSlot {c : Word} (h : 0x200 ≤ c.toNat) (sp : Byte) : c ≠ stackSlot sp := by
  rintro rfl
  have hsp : sp.toNat < 0x100 := sp.isLt
  rw [stackSlot_toNat] at h
  omega

/-- A 16-bit push stores the high byte in the slot SP names and the low byte in the one below. -/
theorem pushWord_stored (s : State) (w : Word) :
    (s.pushWord w).read (stackSlot s.sp) = hiByte w ∧ (s.pushWord w).read (stackSlot (s.sp - 1)) = loByte w ∧
      ∀ c, c ≠ stackSlot s.sp → c ≠ stackSlot (s.sp - 1) → (s.pushWord w).read c = s.read c := by
  obtain ⟨hhi, hkeepHi⟩ := memStored_push s (hiByte w)
  obtain ⟨hlo, hkeepLo⟩ := memStored_push (s.push (hiByte w)) (loByte w)
  exact ⟨(hkeepLo _ (stackSlot_sub_ne s.sp (by decide))).trans hhi, hlo,
    fun c h0 h1 => (hkeepLo c h1).trans (hkeepHi c h0)⟩

/-- BRK stores PC + 2 as a 16-bit push does, and P with PUSH_OR_MASK in the slot below these two. -/
theorem softwareBreak_stored (s : State) :
    (softwareBreak s).read (stackSlot s.sp) = hiByte (s.pc + 2) ∧
      (softwareBreak s).read (stackSlot (s.sp - 1)) = loByte (s.pc + 2) ∧
      (softwareBreak s).read (stackSlot (s.sp - 2)) = s.p ||| s.params.pushOrMask ∧
      ∀ c, c ≠ stackSlot s.sp → c ≠ stackSlot (s.sp - 1) → c ≠ stackSlot (s.sp - 2) →
        (softwareBreak s).read c = s.read c := by
  have hsp : s.sp - 1 - 1 = s.sp - 2 := sub_sub s.sp 1 1
  obtain ⟨hhi, hlo, hkeepPc⟩ := pushWord_stored s (s.pc + 2)
  obtain ⟨hp, hkeepP⟩ : MemStored (stackSlot (s.sp - 2)) (s.p ||| s.params.pushOrMask) (s.pushWord (s.pc + 2))
      (softwareBreak s) := hsp ▸ memStored_push (s.pushWord (s.pc + 2)) (s.p ||| s.params.pushOrMask)
  exact ⟨(hkeepP _ (stackSlot_sub_ne s.sp (by decide))).trans hhi,
    (hkeepP _ (hsp ▸ stackSlot_sub_ne (s.sp - 1) (by decide))).trans hlo, hp,
    fun c h0 h1 h2 => (hkeepP c h2).trans (hkeepPc c h0 h1)⟩

/-- BRK reads its target after its pushes, but these are in the stack page and the vector is not. -/
theorem softwareBreak_pc (s : State) : (softwareBreak s).pc = joinBytes (s.read 0xFFFF) (s.read 0xFFFE) := by
  obtain ⟨-, -, -, hkeep⟩ := softwareBreak_stored s
  have hvector : ∀ c : Word, 0x200 ≤ c.toNat → (softwareBreak s).read c = s.read c := fun c hc =>
    hkeep c (ne_stackSlot hc _) (ne_stackSlot hc _) (ne_stackSlot hc _)
  rw [← hvector 0xFFFF (by decide), ← hvector 0xFFFE (by decide)]
  rfl

theorem pushWord_regs (s : State) (w : Word) : Regs (s.pushWord w) s.a s.x s.y (s.sp - 2) :=
  ⟨rfl, rfl, rfl, sub_sub s.sp 1 1⟩

theorem softwareBreak_regs (s : State) : Regs (softwareBreak s) s.a s.x s.y (s.sp - 3) := by
  have hsp : s.sp - 1 - 1 - 1 = s.sp - 3 := (sub_sub _ 1 1).trans (sub_sub s.sp 1 2)
  rw [← hsp]
  simp [Regs, softwareBreak, State.pushWord]

theorem softwareBreak_flag (s : State) (f : Flag) : (softwareBreak s).flag f = (s.setFlag .i true).flag f := by
  simp [softwareBreak, State.pushWord, State.flag_setFlag]

/-! ## The slots above the stack pointer (rules R171, R211, R212) -/

/-- RTI pulls P, then the low byte of PC, then its high byte. -/
theorem returnFromBreak_pulled (s : State) :
    (returnFromBreak s).p = s.read (stackSlot (s.sp + 1)) ∧
      (returnFromBreak s).pc = joinBytes (s.read (stackSlot (s.sp + 3))) (s.read (stackSlot (s.sp + 2))) := by
  have hlo : s.sp + 1 + 1 = s.sp + 2 := add_assoc s.sp 1 1
  have hhi : s.sp + 2 + 1 = s.sp + 3 := add_assoc s.sp 2 1
  rw [← hhi, ← hlo]
  exact ⟨rfl, rfl⟩

theorem returnFromBreak_regs (s : State) : Regs (returnFromBreak s) s.a s.x s.y (s.sp + 3) := by
  have hsp : s.sp + 1 + 1 + 1 = s.sp + 3 := (add_assoc _ 1 1).trans (add_assoc s.sp 1 2)
  rw [← hsp]
  simp [Regs, returnFromBreak]

theorem returnFromBreak_memSame (s : State) : MemSame s (returnFromBreak s) := fun c => by simp [returnFromBreak]

/-- RTS pulls the low byte of an address, then its high byte, and goes one past it. -/
theorem returnFromCall_pc (s : State) : (returnFromCall s).pc =
    joinBytes (s.read (stackSlot (s.sp + 2))) (s.read (stackSlot (s.sp + 1))) + 1 := by
  have hhi : s.sp + 1 + 1 = s.sp + 2 := add_assoc s.sp 1 1
  rw [← hhi]
  rfl

theorem returnFromCall_regs (s : State) : Regs (returnFromCall s) s.a s.x s.y (s.sp + 2) :=
  ⟨rfl, rfl, rfl, add_assoc s.sp 1 1⟩

end Sys2Proof.Machine

namespace Sys2Proof.Safety

open Sys2Proof.Machine

theorem flagsExcept_setFlag (s : State) (f : Flag) (v : Bool) : FlagsExcept [f] s (s.setFlag f v) :=
  fun g hg => (s.flag_setFlag f g v).trans (if_neg fun h => hg (List.mem_singleton.mpr h))

theorem flagsExcept_putBit (s : State) (a v : Byte) : FlagsExcept [.n, .v, .z] s (s.setP (putBit s.p a v)) := by
  intro g hg
  simp only [List.mem_cons, List.not_mem_nil, or_false, not_or] at hg
  obtain ⟨hn, hv, hz⟩ := hg
  rw [State.flag_setP, getFlag_putBit, if_neg hv, if_neg hn, if_neg hz]
  rfl

theorem bitForms_run (s : State) (b : Byte) (w : Word) : ∀ f ∈ bitForms s b w, f.RunsTo s (opBit f.operand s) :=
  List.forall_iff_forall_mem.mp ⟨⟨rfl, rfl⟩, ⟨rfl, rfl⟩⟩

/-! ## What an instruction that moves PC does -/

theorem Regs.trans {t u : State} {a x y sp : Byte} (ht : Regs t u.a u.x u.y u.sp) (hu : Regs u a x y sp) :
    Regs t a x y sp := by
  obtain ⟨rfl, rfl, rfl, rfl⟩ := hu
  exact ht

/-- An instruction that goes from `u` to `target`: the registers, P and memory are those of `u`. -/
theorem completes_of_setPc {i : Instr} {op : Byte} {len target : Word} {taken crossed : Bool} {s u : State}
    (h : exec i s = .next ((freeAddr (retire op len taken crossed u)).setPc target)) :
    Completes i s fun t =>
      t.pc = target ∧ t.p = u.p ∧ Regs t u.a u.x u.y u.sp ∧ MemSame u t ∧ Outputs t op 0 (cycleTable op taken crossed) ∧
        Elsewhere s t :=
  ⟨_, h, rfl, rfl, ⟨rfl, rfl, rfl, rfl⟩, fun _ => rfl, ⟨rfl, rfl, rfl, rfl⟩, instructionsLeaveTheDeviceAlone i s _ h⟩

/-- `i` has the opcode byte `op`, and in `s` it is the branch by `b` on the flag `f` holding `v`. -/
structure BranchesOn (b : Byte) (s : State) (i : Instr) (op : Byte) (f : Flag) (v : Bool) : Prop where
  opcode_eq : i.opcode = op
  exec_eq : exec i s = branchOp op b (decide (s.flag f = v)) s

section

variable {i : Instr} {op b : Byte} {f : Flag} {s : State}

theorem BranchesOn.of_clear (hop : i.opcode = op) (h : exec i s = branchOp op b (!s.flag f) s) :
    BranchesOn b s i op f false := ⟨hop, Bool.decide_eq_false ▸ h⟩

theorem BranchesOn.of_set (hop : i.opcode = op) (h : exec i s = branchOp op b (s.flag f) s) :
    BranchesOn b s i op f true := ⟨hop, Bool.decide_eq_true ▸ h⟩

theorem BranchesOn.taken {v : Bool} (h : BranchesOn b s i op f v) (hf : s.flag f = v) : exec i s =
    .next ((freeAddr (retire op 2 true (decide (hiByte (branchTarget s.pc b) ≠ hiByte (s.pc + 2))) s)).setPc
      (branchTarget s.pc b)) := by
  rw [h.exec_eq, decide_eq_true hf, branchOp_taken]

theorem BranchesOn.not_taken {v : Bool} (h : BranchesOn b s i op f v) (hf : s.flag f ≠ v) : exec i s =
    .next ((freeAddr (retire op 2 false false s)).setPc (s.pc + 2)) := by
  rw [h.exec_eq, decide_eq_false hf]
  exact branchOp_not_taken.mpr rfl

/-- A jump only moves PC. -/
theorem completes_of_jumpOp {len target : Word} (h : exec i s = jumpOp op len target s) :
    Completes i s fun t =>
      t.pc = target ∧ Regs t s.a s.x s.y s.sp ∧ FlagsExcept [] s t ∧ MemSame s t ∧
        Outputs t op 0 (cycleTable op false false) ∧ Elsewhere s t := by
  obtain ⟨t, hexec, hpc, hp, hregs, hmem, hout, helse⟩ := completes_of_setPc (h.trans (jumpOp_next.mpr rfl))
  exact ⟨t, hexec, hpc, hregs, flagsExcept_of_p_eq [] hp, hmem, hout, helse⟩

section

variable {sentinel : Byte} {ret : State → State}

/-- Rule R301: a return on the empty stack answers its sentinel. -/
theorem completes_of_returnOp_empty (h : exec i s = returnOp op sentinel ret s) (hsp : s.sp = 0xFF) :
    Completes i s (SentinelTick op sentinel s) :=
  ⟨_, (h.trans (returnOp_empty hsp)).trans (sentinelOp_next.mpr rfl), rfl, rfl, rfl, rfl, rfl, ⟨rfl, rfl, rfl, rfl⟩,
    fun _ => rfl, elsewhere_refl s⟩

/-- A return on any other stack goes where its effect has put PC. -/
theorem exec_eq_of_returnOp (h : exec i s = returnOp op sentinel ret s) (hsp : s.sp ≠ 0xFF) :
    exec i s = .next ((freeAddr (retire op 1 false false (ret s))).setPc (ret s).pc) :=
  (h.trans (returnOp_not_empty hsp)).trans (transferOp_next.mpr rfl)

end

end

theorem branches_run (s : State) (b : Byte) : ∀ q ∈ branches b, BranchesOn b s q.1 q.2.1 q.2.2.1 q.2.2.2 :=
  List.forall_iff_forall_mem.mp
    ⟨.of_clear rfl rfl, .of_set rfl rfl, .of_clear rfl rfl, .of_set rfl rfl, .of_clear rfl rfl, .of_set rfl rfl,
      .of_clear rfl rfl, .of_set rfl rfl⟩

end Sys2Proof.Safety

open Sys2Proof Sys2Proof.Machine Sys2Proof.Safety

/-- Settles O26: both forms run `opBit`, which only puts N, V and Z into P. -/
theorem bitResult : Obligations.BitResult := by
  intro s b w f hf
  have hrun := bitForms_run s b w f hf
  rw [opBit_eq_setP] at hrun
  have hflag := getFlag_putBit s.p s.a f.operand
  exact ⟨_, hrun.exec_eq, hflag .z, hflag .n, hflag .v, flagsExcept_putBit s s.a f.operand, ⟨rfl, rfl, rfl, rfl⟩,
    hrun.frame⟩

/-- Settles O38, by whether the flag has the value the branch is on. -/
theorem branchResults : Obligations.BranchResults := by
  intro s b target htarget ⟨i, op, f, v⟩ hq
  obtain rfl : target = branchTarget s.pc b := htarget.trans (branchTarget_eq s.pc b).symm
  have hrun : BranchesOn b s i op f v := branches_run s b _ hq
  by_cases hf : s.flag f = v
  · obtain ⟨t, hexec, hpc, hp, hregs, hmem, hout, helse⟩ := completes_of_setPc (hrun.taken hf)
    simp only [if_pos hf]
    exact ⟨t, hexec, hrun.opcode_eq, hpc, hout, flagsExcept_of_p_eq [] hp, hregs, hmem, helse⟩
  · obtain ⟨t, hexec, hpc, hp, hregs, hmem, hout, helse⟩ := completes_of_setPc (hrun.not_taken hf)
    simp only [if_neg hf]
    exact ⟨t, hexec, hrun.opcode_eq, hpc, hout, flagsExcept_of_p_eq [] hp, hregs, hmem, helse⟩

/-- Settles O39: the three pushes go to three different slots, none of which is the vector. -/
theorem brkResult : Obligations.BrkResult := by
  intro s
  have hrun : exec .brk s = transferOp 0x00 softwareBreak s := rfl
  obtain ⟨hhi, hlo, hsaved, hkeep⟩ := softwareBreak_stored s
  obtain ⟨t, hexec, hpc, hp, hregs, hmem, hout, helse⟩ := completes_of_setPc (hrun.trans (transferOp_next.mpr rfl))
  have hflag : ∀ f, t.flag f = (s.setFlag .i true).flag f := fun f =>
    (congrArg (getFlag · f) hp).trans (softwareBreak_flag s f)
  exact ⟨t, hexec, (hmem _).trans hhi, (hmem _).trans hlo, (hmem _).trans hsaved,
    fun c h0 h1 h2 => (hmem c).trans (hkeep c h0 h1 h2), hpc.trans (softwareBreak_pc s),
    (hflag .i).trans (s.flag_setFlag .i .i true), fun f hf => (hflag f).trans (flagsExcept_setFlag s .i true f hf),
    hregs.trans (softwareBreak_regs s), hout, helse⟩

/-- Settles O40: JSR is a 16-bit push and a jump. -/
theorem jsrResult : Obligations.JsrResult := by
  intro s w
  have hrun : exec (.jsr w) s = callOp 0x20 w s := rfl
  obtain ⟨hhi, hlo, hkeep⟩ := pushWord_stored s (s.pc + 2)
  obtain ⟨t, hexec, hpc, hp, hregs, hmem, hout, helse⟩ := completes_of_setPc (hrun.trans (callOp_next.mpr rfl))
  exact ⟨t, hexec, (hmem _).trans hhi, (hmem _).trans hlo, fun c h0 h1 => (hmem c).trans (hkeep c h0 h1), hpc,
    hregs.trans (pushWord_regs s _), flagsExcept_of_p_eq [] hp, hout, helse, rfl⟩

/-- Settles O41: the empty stack answers the sentinel; any other gives P and PC from the three slots above SP. -/
theorem rtiResult : Obligations.RtiResult := by
  intro s
  have hrun : exec .rti s = returnOp 0x40 s.params.sentinelRti returnFromBreak s := rfl
  refine ⟨completes_of_returnOp_empty hrun, fun hsp => ?_⟩
  obtain ⟨t, hexec, hpc, hp, hregs, hmem, hout, helse⟩ := completes_of_setPc (exec_eq_of_returnOp hrun hsp)
  obtain ⟨hpulledP, hpulledPc⟩ := returnFromBreak_pulled s
  exact ⟨t, hexec, hp.trans hpulledP, hpc.trans hpulledPc, hregs.trans (returnFromBreak_regs s),
    fun c => (hmem c).trans (returnFromBreak_memSame s c), hout, helse⟩

/-- Settles O42: the empty stack answers the sentinel; any other gives PC from the two slots above SP. -/
theorem rtsResult : Obligations.RtsResult := by
  intro s
  have hrun : exec .rts s = returnOp 0x60 s.params.sentinelRts returnFromCall s := rfl
  refine ⟨completes_of_returnOp_empty hrun, fun hsp => ?_⟩
  obtain ⟨t, hexec, hpc, hp, hregs, hmem, hout, helse⟩ := completes_of_setPc (exec_eq_of_returnOp hrun hsp)
  exact ⟨t, hexec, hpc.trans (returnFromCall_pc s), hregs.trans (returnFromCall_regs s), flagsExcept_of_p_eq [] hp,
    hmem, hout, helse⟩

/-- Settles O43: both forms are jumps; the indirect one reads the high byte of its target from `hi`. -/
theorem jmpResults : Obligations.JmpResults :=
  fun _ _ _ hhi => ⟨completes_of_jumpOp rfl, indirectTarget_eq hhi ▸ completes_of_jumpOp rfl⟩

end

section
/-! PROOFS. The undocumented instructions (44_undocumented.md): the read-modify-write forms that go on into an
accumulator operation, the immediate forms that combine AND with a shift or a compare, and LAS. -/

namespace Sys2Proof.Machine

/-! ## The flags after two operations -/

/-- A sum writes C itself: what C held before does not matter. -/
theorem State.setSum_setFlag_c (s : State) (c : Bool) (u : Sum) : (s.setFlag .c c).setSum u = s.setSum u := by
  have hp : putSum (putFlag s.p .c c) u = putSum s.p u := eq_of_getFlag fun g => by
    rw [getFlag_putSum, getFlag_putSum, getFlag_putFlag]
    split_ifs <;> rfl
  exact congrArg (s.setA u.r).setP hp

/-- N and Z, then C: the same as C, then N and Z. -/
theorem State.setFlag_c_setNZ (s : State) (v : Byte) (c : Bool) : (s.setNZ v).setFlag .c c = s.setShifted ⟨v, c⟩ := by
  have hp : putFlag (putNZ s.p v) .c c = putNZ (putFlag s.p .c c) v := eq_of_getFlag fun g => by
    cases g <;> simp [getFlag_putFlag, getFlag_putNZ]
  exact congrArg s.setP hp

/-! ## The operations -/

/-- ADC of a byte when C has just been set. -/
theorem opAdc_setFlag_c (m : Byte) (s : State) (c : Bool) :
    opAdc m (s.setFlag .c c) = s.setSum (addCore s.a m c) := by
  have hc : (s.setFlag .c c).flag .c = c := s.flag_setFlag .c .c c
  rw [opAdc, hc, State.setSum_setFlag_c]
  rfl

theorem opAnc_eq (v : Byte) (s : State) : opAnc v s = s.shiftedA ⟨s.a &&& v, bit7 (s.a &&& v)⟩ :=
  State.setFlag_c_setNZ (s.setA (s.a &&& v)) _ _

theorem opAlr_eq (v : Byte) (s : State) :
    opAlr v s = s.shiftedA ⟨BitVec.ofNat 8 ((s.a &&& v).toNat / 2), (s.a &&& v).getLsbD 0⟩ :=
  congrArg s.shiftedA (shiftLsr_eq (s.a &&& v) (s.flag .c))

theorem opArr_eq {v r : Byte} {s : State} (hr : r = BitVec.ofNat 8 ((s.a &&& v).toNat / 2 + 128 * (s.flag .c).toNat)) :
    opArr v s = (s.shiftedA ⟨r, r.getLsbD 6⟩).setFlag .v (r.getLsbD 6 ^^ r.getLsbD 5) := by
  obtain rfl : (shiftRor (s.a &&& v) (s.flag .c)).r = r := hr ▸ congrArg Shifted.r (shiftRor_eq _ _)
  rw [opArr, State.setFlag_c_setNZ, Bool.bne_eq_xor]
  rfl

/-- A difference of bytes as the difference of their numbers. -/
theorem byte_sub_eq_ofInt (x y : Byte) : x - y = BitVec.ofInt 8 ((x.toNat : Int) - y.toNat) := by
  apply BitVec.eq_of_toNat_eq
  rw [BitVec.toNat_sub, BitVec.toNat_ofInt]
  omega

end Sys2Proof.Machine

namespace Sys2Proof.Safety

open Sys2Proof.Machine

/-! ## Flags that are kept -/

theorem FlagsExcept.mono {fs gs : List Flag} {s t : State} (h : FlagsExcept fs s t) (hsub : fs ⊆ gs) :
    FlagsExcept gs s t := fun g hg => h g fun hmem => hg (hsub hmem)

theorem FlagsExcept.trans {fs : List Flag} {s t u : State} (hst : FlagsExcept fs s t) (htu : FlagsExcept fs t u) :
    FlagsExcept fs s u := fun g hg => (htu g hg).trans (hst g hg)

/-- ARR writes V after the flags of a shift (rule R250). -/
theorem flagsExcept_shiftedA_setFlag_v (s : State) (u : Shifted) (v : Bool) :
    FlagsExcept [.n, .z, .c, .v] s ((s.shiftedA u).setFlag .v v) :=
  have hshift : FlagsExcept [.n, .z, .c] s (s.shiftedA u) := flagsExcept_setShifted (s.setA u.r) u
  (hshift.mono (by decide)).trans ((flagsExcept_setFlag _ .v v).mono (by decide))

/-! ## What a form does -/

/-- The effect of a shift of memory that goes on into `alu` before the instruction retires (rules R240 to R243): the
result stored, then C, then the accumulator operation on the result. -/
def Form.shiftedThen (f : Form) (s : State) (u : Shifted) (alu : Byte → State → State) : State :=
  alu u.r ((s.write f.ea u.r).setFlag .c u.c)

section

variable {f : Form} {s : State} {r : Byte}

/-- The frame of a form that stores a byte and changes A and P only. -/
theorem Form.RunsTo.storedFrame {a p : Byte} (h : f.RunsTo s { s.write f.ea r with a := a, p := p }) :
    MemStored f.ea r s (retireAt f.opcode f.access { s.write f.ea r with a := a, p := p }) ∧
      f.Retired s (retireAt f.opcode f.access { s.write f.ea r with a := a, p := p }) :=
  ⟨memStored_write s f.ea r, h.opcode_eq, rfl, rfl, rfl, ⟨rfl, rfl, rfl, rfl⟩, elsewhere_refl s⟩

theorem Form.RunsTo.shiftsThen {a : Byte} {c : Bool} (h : f.RunsTo s ((s.write f.ea r).shiftedA ⟨a, c⟩)) :
    f.ShiftsThen s r a c := by
  obtain ⟨hstored, hret⟩ := h.storedFrame
  exact ⟨_, h.exec_eq, hstored, ⟨rfl, rfl, rfl, rfl⟩, State.flag_setShifted _ ⟨a, c⟩ .c, flagsNZ_setShifted _ ⟨a, c⟩,
    flagsExcept_setShifted ((s.write f.ea r).setA a) ⟨a, c⟩, hret⟩

/-- The immediate forms that leave in A and P what a shift of A leaves (rules R248, R249). -/
theorem Form.RunsTo.shiftsA {c : Bool} (h : f.RunsTo s (s.shiftedA ⟨r, c⟩)) :
    Completes f.instr s fun t =>
      Regs t r s.x s.y s.sp ∧ FlagsNZ t r ∧ t.flag .c = c ∧ FlagsExcept [.n, .z, .c] s t ∧ MemSame s t ∧
        f.Retired s t :=
  ⟨_, h.exec_eq, ⟨rfl, rfl, rfl, rfl⟩, flagsNZ_setShifted _ ⟨r, c⟩, State.flag_setShifted _ ⟨r, c⟩ .c,
    flagsExcept_setShifted (s.setA r) ⟨r, c⟩, h.frame⟩

end

/-! ## The forms of each instruction

As for the accumulator/ALU instructions: one arm of `exec` per form. -/

section

variable (s : State) (b : Byte) (w : Word)

theorem sloForms_run : ∀ f ∈ sloForms s b w, f.RunsTo s (f.shiftedThen s (shiftAsl f.operand (s.flag .c)) opOra) :=
  List.forall_iff_forall_mem.mp ⟨⟨rfl, rfl⟩, ⟨rfl, rfl⟩, ⟨rfl, rfl⟩, ⟨rfl, rfl⟩, ⟨rfl, rfl⟩, ⟨rfl, rfl⟩, ⟨rfl, rfl⟩⟩

theorem rlaForms_run : ∀ f ∈ rlaForms s b w, f.RunsTo s (f.shiftedThen s (shiftRol f.operand (s.flag .c)) opAnd) :=
  List.forall_iff_forall_mem.mp ⟨⟨rfl, rfl⟩, ⟨rfl, rfl⟩, ⟨rfl, rfl⟩, ⟨rfl, rfl⟩, ⟨rfl, rfl⟩, ⟨rfl, rfl⟩, ⟨rfl, rfl⟩⟩

theorem sreForms_run : ∀ f ∈ sreForms s b w, f.RunsTo s (f.shiftedThen s (shiftLsr f.operand (s.flag .c)) opEor) :=
  List.forall_iff_forall_mem.mp ⟨⟨rfl, rfl⟩, ⟨rfl, rfl⟩, ⟨rfl, rfl⟩, ⟨rfl, rfl⟩, ⟨rfl, rfl⟩, ⟨rfl, rfl⟩, ⟨rfl, rfl⟩⟩

theorem rraForms_run : ∀ f ∈ rraForms s b w, f.RunsTo s (f.shiftedThen s (shiftRor f.operand (s.flag .c)) opAdc) :=
  List.forall_iff_forall_mem.mp ⟨⟨rfl, rfl⟩, ⟨rfl, rfl⟩, ⟨rfl, rfl⟩, ⟨rfl, rfl⟩, ⟨rfl, rfl⟩, ⟨rfl, rfl⟩, ⟨rfl, rfl⟩⟩

theorem dcpForms_run : ∀ f ∈ dcpForms s b w, f.RunsTo s (opCmp (f.operand - 1) (s.write f.ea (f.operand - 1))) :=
  List.forall_iff_forall_mem.mp ⟨⟨rfl, rfl⟩, ⟨rfl, rfl⟩, ⟨rfl, rfl⟩, ⟨rfl, rfl⟩, ⟨rfl, rfl⟩, ⟨rfl, rfl⟩, ⟨rfl, rfl⟩⟩

theorem iscForms_run : ∀ f ∈ iscForms s b w, f.RunsTo s (opSbc (f.operand + 1) (s.write f.ea (f.operand + 1))) :=
  List.forall_iff_forall_mem.mp ⟨⟨rfl, rfl⟩, ⟨rfl, rfl⟩, ⟨rfl, rfl⟩, ⟨rfl, rfl⟩, ⟨rfl, rfl⟩, ⟨rfl, rfl⟩, ⟨rfl, rfl⟩⟩

theorem ancForms_run :
    ∀ f ∈ [Form.imm (.ancImm0B b) 0x0B b s, Form.imm (.ancImm2B b) 0x2B b s], f.RunsTo s (opAnc b s) :=
  List.forall_iff_forall_mem.mp ⟨⟨rfl, rfl⟩, ⟨rfl, rfl⟩⟩

theorem alrForm_run : (Form.imm (.alrImm b) 0x4B b s).RunsTo s (opAlr b s) := ⟨rfl, rfl⟩

theorem arrForm_run : (Form.imm (.arrImm b) 0x6B b s).RunsTo s (opArr b s) := ⟨rfl, rfl⟩

theorem sbxForm_run : (Form.imm (.sbxImm b) 0xCB b s).RunsTo s (opSbx b s) := ⟨rfl, rfl⟩

theorem lasForms_run : ∀ f ∈ [Form.at (.lasAby w) 0xBB (accAby w s) s], f.RunsTo s (opLas f.operand s) :=
  List.forall_mem_singleton.mpr ⟨rfl, rfl⟩

end

end Sys2Proof.Safety

open Sys2Proof Sys2Proof.Machine Sys2Proof.Safety

/-- Settles O44: every form shifts memory as ASL, ROL or LSR does, then runs ORA, AND or EOR on the result, none of which
writes C. -/
theorem shiftThenLogicResults : Obligations.ShiftThenLogicResults := by
  intro s b w
  refine ⟨fun f hf r hr => ?_, fun f hf r hr => ?_, fun f hf r hr => ?_⟩
  · have hrun := sloForms_run s b w f hf
    rw [shiftAsl_eq, ← hr] at hrun
    exact hrun.shiftsThen
  · have hrun := rlaForms_run s b w f hf
    rw [shiftRol_eq, ← hr] at hrun
    exact hrun.shiftsThen
  · have hrun := sreForms_run s b w f hf
    rw [shiftLsr_eq, ← hr] at hrun
    exact hrun.shiftsThen

/-- Settles O45: the addition sees the bit rotated out as its carry, and writes C itself. -/
theorem rraResult : Obligations.RraResult := by
  intro s b w f hf r hr
  have hrun : f.RunsTo s ((s.write f.ea r).setSum (addCore s.a r (f.operand.getLsbD 0))) := by
    have h := rraForms_run s b w f hf
    rwa [shiftRor_eq, ← hr, Form.shiftedThen, opAdc_setFlag_c] at h
  obtain ⟨hstored, hret⟩ := hrun.storedFrame
  exact ⟨_, hrun.exec_eq, hstored, ⟨rfl, rfl, rfl, rfl⟩, addFlags_setSum (s.write f.ea r) _ _ _, flagsNZ_setSum _ _,
    flagsExcept_setSum (s.write f.ea r) _, hret⟩

/-- Settles O46: DCP stores the operand one less and runs `Compare` on it, ISC stores it one more and runs `SubCore`. -/
theorem dcpAndIscResults : Obligations.DcpAndIscResults := by
  intro s b w
  constructor
  · intro f hf r hr
    have hrun : f.RunsTo s ((s.write f.ea r).compare s.a r) := hr ▸ byte_sub_one f.operand ▸ dcpForms_run s b w f hf
    obtain ⟨hstored, hret⟩ := hrun.storedFrame
    exact ⟨_, hrun.exec_eq, hstored, State.flag_compare _ s.a r .c, State.flag_compare _ s.a r .z,
      State.flag_compare _ s.a r .n, (flagsExcept_compare (s.write f.ea r) s.a r).mono (by decide),
      ⟨rfl, rfl, rfl, rfl⟩, hret⟩
  · intro f hf r hr
    have hrun : f.RunsTo s ((s.write f.ea r).setSum (subCore s.a r (s.flag .c))) :=
      hr ▸ byte_add_one f.operand ▸ iscForms_run s b w f hf
    obtain ⟨hstored, hret⟩ := hrun.storedFrame
    rw [← subCore_r_eq]
    exact ⟨_, hrun.exec_eq, hstored, ⟨rfl, rfl, rfl, rfl⟩, subFlags_setSum (s.write f.ea r) _ _ _, flagsNZ_setSum _ _,
      flagsExcept_setSum (s.write f.ea r) _, hret⟩

/-- Settles O47: ANC and ALR leave what a shift of A leaves; ARR takes its C and V from the rotated byte. -/
theorem andImmediateResults : Obligations.AndImmediateResults := by
  intro s b r
  refine ⟨fun f hf => ?_, fun hr => ?_, fun hr => ?_⟩
  · exact Form.RunsTo.shiftsA (opAnc_eq b s ▸ ancForms_run s b f hf)
  · exact Form.RunsTo.shiftsA (hr ▸ opAlr_eq b s ▸ alrForm_run s b)
  · have hrun := opArr_eq hr ▸ arrForm_run s b
    have hflag := (s.shiftedA ⟨r, r.getLsbD 6⟩).flag_setFlag .v (v := r.getLsbD 6 ^^ r.getLsbD 5)
    obtain ⟨hn, hz⟩ := flagsNZ_setShifted (s.setA r) ⟨r, r.getLsbD 6⟩
    exact ⟨_, hrun.exec_eq, ⟨rfl, rfl, rfl, rfl⟩, ⟨(hflag .n).trans hn, (hflag .z).trans hz⟩,
      (hflag .c).trans (State.flag_setShifted _ _ .c), hflag .v, flagsExcept_shiftedA_setFlag_v s _ _, hrun.frame⟩

/-- Settles O48: SBX leaves the difference in X with the flags of a compare; LAS loads three registers. -/
theorem sbxAndLasResults : Obligations.SbxAndLasResults := by
  intro s b r w
  refine ⟨fun hr => ?_, fun f hf => ?_⟩
  · have hrun : (Form.imm (.sbxImm b) 0xCB b s).RunsTo s
        ((s.setX r).setShifted ⟨r, decide (b ≤ s.a &&& s.x)⟩) := hr ▸ byte_sub_eq_ofInt _ b ▸ sbxForm_run s b
    exact ⟨_, hrun.exec_eq, ⟨rfl, rfl, rfl, rfl⟩, State.flag_setShifted _ _ .c, flagsNZ_setShifted _ _,
      flagsExcept_setShifted (s.setX r) _, hrun.frame⟩
  · have hrun := lasForms_run s w f hf
    exact ⟨_, hrun.exec_eq, ⟨rfl, rfl, rfl, rfl⟩, flagsNZ_setNZ _ _, flagsExcept_setNZ _ _, fun _ => rfl,
      hrun.opcode_eq, rfl, rfl, rfl, ⟨rfl, rfl, rfl, rfl⟩, elsewhere_refl s⟩

end

section
/-! PROOFS. The status of a tick and the sound device (60_exceptions.md Parts A and C): which instructions answer a
sentinel, what `emulate` leaves alone, and one sample of the envelope and of the waveform of a voice. -/

namespace Sys2Proof.Machine

/-! ## The status of a tick (rule R301) -/

/-- A branch answers status 0, taken or not. -/
theorem branchOp_status_zero (op b : Byte) (cond : Bool) (s : State) :
    ∃ t, branchOp op b cond s = .next t ∧ t.status = 0 := by
  cases cond with
  | true => exact ⟨_, branchOp_taken.mpr rfl, rfl⟩
  | false => exact ⟨_, branchOp_not_taken.mpr rfl, rfl⟩

/-- A return answers its sentinel exactly on the empty stack. -/
theorem returnOp_status {op sentinel : Byte} {f : State → State} {s t : State}
    (h : returnOp op sentinel f s = .next t) :
    s.sp = 0xFF ∧ t.status = sentinel ∨ s.sp ≠ 0xFF ∧ t.status = 0 := by
  by_cases hsp : s.sp = 0xFF
  · rw [returnOp_empty hsp, sentinelOp_next] at h
    exact .inl ⟨hsp, h ▸ rfl⟩
  · rw [returnOp_not_empty hsp, transferOp_next] at h
    exact .inr ⟨hsp, h ▸ rfl⟩

/-- Every shape of instruction but the return ends in `retire`, which answers status 0. -/
theorem exec_refused_or_status_zero {i : Instr} (hrts : i ≠ .rts) (hrti : i ≠ .rti) (s : State) :
    (∃ r, exec i s = .refused r) ∨ ∃ t, exec i s = .next t ∧ t.status = 0 := by
  cases i with
  | rts => exact absurd rfl hrts
  | rti => exact absurd rfl hrti
  | jam02 | jam12 | jam22 | jam32 | jam42 | jam52 | jam62 | jam72 | jam92 | jamB2 | jamD2 | jamF2
  | aneImm | lxaImm | shaIzy | shaAby | shxAby | shyAbx | tasAby => exact .inl ⟨_, rfl⟩
  | bpl | bmi | bvc | bvs | bcc | bcs | bne | beq => exact .inr (branchOp_status_zero _ _ _ s)
  | _ => exact .inr ⟨_, rfl, rfl⟩

theorem status_of_exec_next {i : Instr} {s t : State} (hrts : i ≠ .rts) (hrti : i ≠ .rti) (h : exec i s = .next t) :
    t.status = 0 := by
  obtain ⟨r, hr⟩ | ⟨u, hu, hstatus⟩ := exec_refused_or_status_zero hrts hrti s
  · rw [hr] at h
    cases h
  · rw [hu] at h
    cases h
    exact hstatus

/-! ## `emulate` (rules R335, R338) -/

/-- The read-back bytes change memory and the count of free values only. -/
theorem freeReadBack_eq (base : Word) (s : State) : ∃ m d, freeReadBack base s = { s with mem := m, draws := d } := by
  simp only [freeReadBack, State.write]
  exact ⟨_, _, rfl⟩

theorem chip_freeReadBack (base : Word) (s : State) (i : ChipIndex) : (freeReadBack base s).chip i = s.chip i := by
  obtain ⟨m, d, heq⟩ := freeReadBack_eq base s
  rw [heq]
  cases i <;> rfl

/-- `emulate` changes memory, the chips and the count of free values only. -/
theorem emulateWith_eq (cfg : DevConfig) (i : ChipIndex) (base : Word) (s : State) :
    ∃ m d c0 c1 c2, emulateWith cfg i base s =
      { s with mem := m, draws := d, chip0 := c0, chip1 := c1, chip2 := c2 } := by
  obtain ⟨m, d, heq⟩ := freeReadBack_eq base (s.setChip i (chipStep cfg (readWindow s base) (s.chip i)))
  rw [emulateWith, heq, setChip_eq]
  exact ⟨_, _, _, _, _, rfl⟩

theorem chip_emulateWith_same (cfg : DevConfig) (i : ChipIndex) (base : Word) (s : State) :
    (emulateWith cfg i base s).chip i = chipStep cfg (readWindow s base) (s.chip i) :=
  (chip_freeReadBack base _ i).trans (chip_setChip_same s i _)

theorem chip_emulateWith_ne (cfg : DevConfig) {i j : ChipIndex} (base : Word) (s : State) (h : j ≠ i) :
    (emulateWith cfg i base s).chip j = s.chip j :=
  (chip_freeReadBack base _ j).trans (chip_setChip_ne s _ h)

/-! ## The gate (rule R341) -/

section

variable {r : VoiceRegs} {ch : Channel}

theorem gateEdge_of_rise (hr : r.gateBit = true) (hg : ch.gate = false) :
    gateEdge r ch = { ch with gate := true, attack := true, decaysustain := true, holdzero := false } := by
  simp [gateEdge, hr, hg]

theorem gateEdge_of_fall (hr : r.gateBit = false) (hg : ch.gate = true) :
    gateEdge r ch = { ch with gate := false, attack := false, decaysustain := false } := by
  simp [gateEdge, hr, hg]

theorem gateEdge_of_no_edge (h : r.gateBit = ch.gate) : gateEdge r ch = ch := if_pos h

/-- Only a rising edge frees hold-zero. -/
theorem gateEdge_holdzero (h : ¬ (r.gateBit = true ∧ ch.gate = false)) :
    (gateEdge r ch).holdzero = ch.holdzero := by
  by_cases hedge : r.gateBit = ch.gate
  · rw [gateEdge_of_no_edge hedge]
  · obtain ⟨hr, hg⟩ : r.gateBit = false ∧ ch.gate = true := by
      revert h hedge
      cases r.gateBit <;> cases ch.gate <;> simp
    rw [gateEdge_of_fall hr hg]

/-! ## The envelope step (rules R342, R344, R348) -/

theorem loNibble_toNat (v : Byte) : (loNibble v).toNat = v.toNat % 16 := BitVec.extractLsb'_toNat 0 4 v

/-- The comparison is suppressed on a rising edge with a greater release nibble. -/
theorem delayBug_of_rise (hr : r.gateBit = true) (hg : ch.gate = false)
    (hrelease : ch.prevSR.toNat % 16 < r.sr.toNat % 16) : delayBug r ch = true := by
  have hnibble : loNibble ch.prevSR < loNibble r.sr := by
    rwa [BitVec.lt_def, loNibble_toNat, loNibble_toNat]
  simp [delayBug, gateRises, hr, hg, hnibble]

theorem rateAdvance_of_lt {cfg : DevConfig} {n : Rat} (h : n + cfg.clkRatio < 0x8000) :
    rateAdvance cfg n = n + cfg.clkRatio := if_neg (not_le.mpr h)

end

/-- Everything an envelope step can do to a channel after the gate edge (rules R341, R347, R348), whether or not the
delay bug suppresses the comparison. -/
theorem envelopeStep_spec (cfg : DevConfig) (r : VoiceRegs) (ch : Channel) :
    ∃ attack holdzero envcnt expcnt ratecnt,
      envelopeStep cfg r ch =
        { gateEdge r ch with attack := attack, holdzero := holdzero, envcnt := envcnt, expcnt := expcnt,
                             ratecnt := ratecnt, prevSR := r.sr } ∧
      ((gateEdge r ch).attack = true → ch.envcnt.toNat ≤ envcnt.toNat) ∧
      ((gateEdge r ch).attack = false → envcnt.toNat ≤ ch.envcnt.toNat) ∧
      ((gateEdge r ch).holdzero = true → holdzero = true ∧ envcnt = ch.envcnt) := by
  obtain ⟨-, henv, -⟩ := gateEdge_counters r ch
  rw [← henv]
  cases hbug : delayBug r ch with
  | true =>
    exact ⟨_, _, _, _, _, envelopeStep_suppressed hbug, fun _ => le_rfl, fun _ => le_rfl, fun h => ⟨h, rfl⟩⟩
  | false =>
    obtain ⟨a, z, e, x, heq, -, hfrozen, hup, hdown, -⟩ := envelopeCompare_spec cfg r ch.ratecnt
      { gateEdge r ch with prevSR := r.sr, ratecnt := rateAdvance cfg ch.ratecnt }
    exact ⟨a, z, e, x, _, (envelopeStep_compared hbug).trans heq, hup, hdown, hfrozen⟩

/-! ## The phase accumulator (rule R350) -/

theorem nextPhase_of_test (cfg : DevConfig) {r : VoiceRegs} (rise : Bool) (prevphase : Rat)
    (htest : r.testBit = true) : nextPhase cfg r rise prevphase = 0 := if_pos htest

theorem nextPhase_of_sync (cfg : DevConfig) {r : VoiceRegs} {rise : Bool} (prevphase : Rat)
    (hsync : r.syncBit = true) (hrise : rise = true) : nextPhase cfg r rise prevphase = 0 := by
  simp [nextPhase, hsync, hrise]

theorem nextPhase_advances (cfg : DevConfig) {r : VoiceRegs} {rise : Bool} (prevphase : Rat)
    (htest : r.testBit = false) (hsync : ¬ (r.syncBit = true ∧ rise = true)) :
    nextPhase cfg r rise prevphase = ratMod (prevphase + phaseStep cfg r) 0x1000000 := by
  simp [nextPhase, htest, hsync]

/-- A remainder differs from the number by a multiple of the modulus. -/
theorem ratMod_eq_sub_mul (x m : Rat) : ∃ k : Int, ratMod x m = x - (k : Rat) * m :=
  ⟨(x / m).floor, by rw [ratMod, mul_comm]⟩

/-! ## The waveform output (rules R353, R354, R360) -/

/-- The four waveform bits are those of the high nibble of CTRL. -/
theorem waveBits_eq (r : VoiceRegs) :
    r.triBit = (hiNibble r.ctrl).getLsbD 0 ∧ r.sawBit = (hiNibble r.ctrl).getLsbD 1 ∧
      r.pulseBit = (hiNibble r.ctrl).getLsbD 2 ∧ r.noiseBit = (hiNibble r.ctrl).getLsbD 3 := by
  simp [hiNibble, VoiceRegs.triBit, VoiceRegs.sawBit, VoiceRegs.pulseBit, VoiceRegs.noiseBit]

section

variable (cfg : DevConfig) (model : ChipModel) {r : VoiceRegs} (msb : Bool) (phase : BitVec 24) (add : Rat)
  (lfsr : BitVec 23) (prev prevData : BitVec 16)

theorem waveOut_of_none (h : hiNibble r.ctrl = 0) :
    waveOut cfg model r msb phase add lfsr prev prevData = { wfout := prev, prevwavdata := prevData } := by
  obtain ⟨htri, hsaw, hpulse, hnoise⟩ := waveBits_eq r
  simp [waveOut, htri, hsaw, hpulse, hnoise, h]

theorem waveOut_of_triangle (h : hiNibble r.ctrl = 0b0001) :
    waveOut cfg model r msb phase add lfsr prev prevData =
      { wfout := triangle phase r.ringBit msb, prevwavdata := prevData } := by
  obtain ⟨htri, hsaw, hpulse, hnoise⟩ := waveBits_eq r
  simp [waveOut, htri, hsaw, hpulse, hnoise, h]

end

/-- Complementing the highest bit adds half the range. -/
theorem xor_0x800000_toNat (t : BitVec 24) : (t ^^^ 0x800000).toNat = (t.toNat + 0x800000) % 0x1000000 := by
  have ht : t.toNat < 0x1000000 := t.isLt
  have hlow : (t.toNat ^^^ 0x800000) % 2 ^ 23 = t.toNat % 2 ^ 23 := by rw [Nat.xor_mod_two_pow]; simp
  have hhigh : (t.toNat ^^^ 0x800000) / 2 ^ 23 = t.toNat / 2 ^ 23 ^^^ 1 := Nat.xor_div_two_pow
  have hxor : (t ^^^ 0x800000).toNat = t.toNat ^^^ 0x800000 := BitVec.toNat_xor t 0x800000
  have hbit : t.toNat / 2 ^ 23 = 0 ∨ t.toNat / 2 ^ 23 = 1 := by omega
  rcases hbit with h | h
  · have hone : (t.toNat ^^^ 0x800000) / 2 ^ 23 = 1 := by rw [hhigh, h, Nat.zero_xor]
    omega
  · have hzero : (t.toNat ^^^ 0x800000) / 2 ^ 23 = 0 := by rw [hhigh, h, Nat.xor_self]
    omega

theorem xor_0xFFFFFF_toNat (t : BitVec 24) : (t ^^^ 0xFFFFFF).toNat = 0xFFFFFF - t.toNat := by
  have hnot : t ^^^ 0xFFFFFF = ~~~t := BitVec.xor_allOnes
  rw [hnot, BitVec.toNat_not]

/-- The fold of rule R354: `t` below the middle, else its complement. -/
theorem fold_toNat (t : BitVec 24) : (if t.getLsbD 23 then t ^^^ 0xFFFFFF else t).toNat =
    if t.toNat < 0x800000 then t.toNat else 0xFFFFFF - t.toNat := by
  have hbit : t.getLsbD 23 = decide (0x800000 ≤ t.toNat) := BitVec.getLsbD_last t
  by_cases h : t.toNat < 0x800000
  · rw [hbit, decide_eq_false (not_le.mpr h), if_neg Bool.false_ne_true, if_pos h]
  · rw [hbit, decide_eq_true (not_lt.mp h), if_pos rfl, if_neg h, xor_0xFFFFFF_toNat]

/-- The triangle is bits 22 to 7 of the folded phase. -/
theorem triangle_toNat {phase : BitVec 24} {ring msb : Bool} {n : Nat}
    (hn : n = if ring = true ∧ msb = true then (phase.toNat + 0x800000) % 0x1000000 else phase.toNat) :
    (triangle phase ring msb).toNat = (if n < 0x800000 then n else 0xFFFFFF - n) / 0x80 := by
  have ht : (if ring && msb then phase ^^^ 0x800000 else phase).toNat = n := by
    rw [hn, apply_ite BitVec.toNat, xor_0x800000_toNat]
    simp only [Bool.and_eq_true]
  have hlt : n < 0x1000000 := ht ▸ BitVec.isLt _
  rw [triangle, BitVec.extractLsb'_toNat, fold_toNat, ht, Nat.shiftRight_eq_div_pow]
  split <;> omega

end Sys2Proof.Machine

open Sys2Proof Sys2Proof.Machine Sys2Proof.Safety

/-- Settles O51: a return answers its sentinel exactly on the empty stack, and no other instruction answers one. -/
theorem statusIsASentinelOnlyOnEmptyReturns : Obligations.StatusIsASentinelOnlyOnEmptyReturns := by
  intro i s t _ _ h
  by_cases hrts : i = .rts
  · subst hrts
    obtain ⟨hsp, hstatus⟩ | ⟨hsp, hstatus⟩ := returnOp_status h
    · exact .inl ⟨rfl, hsp, hstatus⟩
    · exact .inr (.inr ⟨fun ⟨_, hempty⟩ => hsp hempty, fun ⟨_, hempty⟩ => hsp hempty, hstatus⟩)
  by_cases hrti : i = .rti
  · subst hrti
    obtain ⟨hsp, hstatus⟩ | ⟨hsp, hstatus⟩ := returnOp_status h
    · exact .inr (.inl ⟨rfl, hsp, hstatus⟩)
    · exact .inr (.inr ⟨fun ⟨_, hempty⟩ => hsp hempty, fun ⟨_, hempty⟩ => hsp hempty, hstatus⟩)
  exact .inr (.inr ⟨fun ⟨hi, _⟩ => hrts hi, fun ⟨hi, _⟩ => hrti hi, status_of_exec_next hrts hrti h⟩)

/-- Settles O54: chip `i` is replaced, then the four read-back bytes become free; nothing else is touched. -/
theorem emulateFrame : Obligations.EmulateFrame := by
  intro s i base hready hactive
  refine ⟨_, emulate_next hready hactive, chip_emulateWith_same _ i base s,
    fun j hj => chip_emulateWith_ne _ base s hj,
    fun c h0 h1 h2 h3 => (read_freeReadBack_ne base _ h0 h1 h2 h3).trans (read_setChip s i _ c), ?_⟩
  obtain ⟨m, d, c0, c1, c2, heq⟩ := emulateWith_eq Config.dev i base s
  rw [heq]
  exact ⟨⟨rfl, rfl, rfl, rfl⟩, rfl, rfl, rfl, rfl, rfl, rfl, rfl, rfl, rfl, rfl⟩

/-- Settles O55, from everything an envelope step can do; with no rising edge the gate edge keeps hold-zero. -/
theorem envelopeIsMonotone : Obligations.EnvelopeIsMonotone := by
  intro cfg r ch
  obtain ⟨a, z, e, x, n, heq, hup, hdown, hfrozen⟩ := envelopeStep_spec cfg r ch
  rw [heq]
  refine ⟨hup, hdown, fun hz he hrise => ?_, fun s i c hc => ?_⟩
  · obtain ⟨hz', he'⟩ := hfrozen ((gateEdge_holdzero hrise).trans hz)
    exact ⟨he'.trans he, hz'⟩
  · rw [chip_chipInit] at hc
    have hreset : c = Channel.reset := by simpa [resetChip, Chip.reset] using hc
    exact hreset ▸ ⟨rfl, rfl⟩

/-- Settles O56: the three cases of the gate; a suppressed comparison leaves only the advance of the rate counter. -/
theorem gateEdgesAndDelayBug : Obligations.GateEdgesAndDelayBug := by
  intro cfg r ch
  refine ⟨fun hr hg => ?rise, fun hr hg => ?fall, gateEdge_of_no_edge, fun hr hg hrelease => ?suppressed, ?snapshot⟩
  case rise => rw [gateEdge_of_rise hr hg]; exact ⟨rfl, rfl, rfl, rfl⟩
  case fall => rw [gateEdge_of_fall hr hg]; exact ⟨rfl, rfl, rfl, rfl⟩
  case suppressed =>
    obtain ⟨-, henv, hexp, -⟩ := gateEdge_counters r ch
    rw [envelopeStep_suppressed (delayBug_of_rise hr hg hrelease)]
    exact ⟨henv, hexp, rateAdvance_of_lt⟩
  case snapshot =>
    obtain ⟨a, z, e, x, n, heq, -⟩ := envelopeStep_spec cfg r ch
    rw [heq]

/-- Settles O57: the phase after the step is `nextPhase`, by its three branches. -/
theorem phaseAccumulatorAdvance : Obligations.PhaseAccumulatorAdvance := by
  rintro cfg model r msb rise ch v rfl
  refine ⟨rfl, nextPhase_of_test cfg rise _, fun _ => nextPhase_of_sync cfg _, fun htest hsync => ?_⟩
  obtain ⟨hlo, hhi⟩ := nextPhase_range cfg r rise ch.prevphase
  obtain ⟨k, hk⟩ := ratMod_eq_sub_mul (ch.prevphase + phaseStep cfg r) 0x1000000
  exact ⟨hlo, hhi, k, (nextPhase_advances cfg _ htest hsync).trans hk⟩

/-- Settles O58: the step remembers its output, which with no waveform bit set is the one remembered. -/
theorem noWaveformHolds : Obligations.NoWaveformHolds := by
  rintro cfg model r msb rise ch v rfl
  refine ⟨rfl, fun hnone => ?_⟩
  have hout := waveOut_of_none cfg model msb (phaseBits (nextPhase cfg r rise ch.prevphase)) (phaseStep cfg r)
    (waveStep cfg model r msb rise ch).ch.lfsr ch.prevwfout ch.prevwavdata hnone
  exact ⟨congrArg WaveOut.wfout hout, congrArg WaveOut.prevwavdata hout⟩

/-- Settles O59: with only TRI set the output is the triangle. -/
theorem triangleIsTheFoldedPhase : Obligations.TriangleIsTheFoldedPhase := by
  intro cfg model r msb phase add lfsr prev prevData n htri hn
  rw [waveOut_of_triangle cfg model msb phase add lfsr prev prevData htri]
  exact triangle_toNat hn

end

section
/-! PROOFS. Decoding and encoding (30_encoding.md): what the decoder answers, from the opcode map, and that the map and
the encoder, which are written from different parts of the spec, agree. -/

namespace Sys2Proof

/-- The two bytes of a word make up the word again (rules R6, R53). -/
theorem joinBytes_hiByte_loByte (w : Word) : joinBytes (hiByte w) (loByte w) = w := by
  apply BitVec.eq_of_toNat_eq
  rw [joinBytes_toNat, hiByte_toNat, loByte_toNat]
  omega

theorem loByte_joinBytes (hi lo : Byte) : loByte (joinBytes hi lo) = lo := by
  apply BitVec.eq_of_toNat_eq
  rw [loByte_toNat, joinBytes_toNat]
  omega

theorem hiByte_joinBytes (hi lo : Byte) : hiByte (joinBytes hi lo) = hi := by
  apply BitVec.eq_of_toNat_eq
  rw [hiByte_toNat, joinBytes_toNat]
  omega

/-! ## What the decoder answers -/

/-- `c.Makes operands i`: the cell `c`, completed by exactly these operand bytes, is the instruction `i` (rule R80). -/
inductive Cell.Makes : Cell → List Byte → Instr → Prop where
  | alone (i : Instr) : Makes (.alone i) [] i
  | withByte (f : Byte → Instr) (b : Byte) : Makes (.withByte f) [b] (f b)
  | withWord (f : Word → Instr) (lo hi : Byte) : Makes (.withWord f) [lo, hi] (f (joinBytes hi lo))

/-- A cell with a word operand takes the bytes of the word, low byte first. -/
theorem Cell.Makes.word (f : Word → Instr) (w : Word) : (Cell.withWord f).Makes [loByte w, hiByte w] (f w) := by
  simpa only [joinBytes_hiByte_loByte] using Cell.Makes.withWord f (loByte w) (hiByte w)

section

variable {op : Byte} {i : Instr} {f : Byte → Instr} {g : Word → Instr}

theorem decode_alone (h : cellOf op = .alone i) (rest : List Byte) : decode (op :: rest) = .ok (i, rest) := by
  simp [decode, decodeOp, h, Cell.operandBytes, Cell.fill]

theorem decode_withByte (h : cellOf op = .withByte f) (b : Byte) (rest : List Byte) :
    decode (op :: b :: rest) = .ok (f b, rest) := by
  simp [decode, decodeOp, h, Cell.operandBytes, Cell.fill]

theorem decode_withWord (h : cellOf op = .withWord g) (lo hi : Byte) (rest : List Byte) :
    decode (op :: lo :: hi :: rest) = .ok (g (joinBytes hi lo), rest) := by
  simp [decode, decodeOp, h, Cell.operandBytes, Cell.fill]

end

/-- An opcode byte and the operand bytes its cell takes decode to what the cell makes of them; the rest is left. -/
theorem decode_of_makes {op : Byte} {operands : List Byte} {i : Instr} (h : (cellOf op).Makes operands i)
    (rest : List Byte) : decode (op :: operands ++ rest) = .ok (i, rest) := by
  generalize hc : cellOf op = c at h
  cases h with
  | alone => exact decode_alone hc rest
  | withByte f b => exact decode_withByte hc b rest
  | withWord f lo hi => exact decode_withWord hc lo hi rest

/-- Bytes that decode are an opcode byte, the operand bytes its cell takes, and the rest. -/
theorem makes_of_decode {bytes rest : List Byte} {i : Instr} (h : decode bytes = .ok (i, rest)) :
    ∃ op operands, bytes = op :: operands ++ rest ∧ (cellOf op).Makes operands i := by
  cases bytes with
  | nil => cases h
  | cons op tail =>
    cases hc : cellOf op with
    | alone j =>
      rw [decode_alone hc] at h
      cases h
      exact ⟨op, [], rfl, hc ▸ .alone _⟩
    | withByte f =>
      match tail with
      | [] => simp [decode, hc, Cell.operandBytes] at h
      | b :: tail =>
        rw [decode_withByte hc] at h
        cases h
        exact ⟨op, [b], rfl, hc ▸ .withByte f b⟩
    | withWord f =>
      match tail with
      | [] | [_] => simp [decode, hc, Cell.operandBytes] at h
      | lo :: hi :: tail =>
        rw [decode_withWord hc] at h
        cases h
        exact ⟨op, [lo, hi], rfl, hc ▸ .withWord f lo hi⟩

/-! ## The map and the encoder agree -/

/-- The cell of an instruction's opcode byte makes the instruction of its operand bytes: its row of the encoding lists
names its own place in the map (rules R97, R99). The opcode byte is first made a literal, since the place of a term with
a variable in it does not evaluate. -/
theorem cellOf_opcode_makes (i : Instr) : (cellOf i.opcode).Makes i.operandBytes i := by
  cases i with
  | brk | jam02 | php | aslAcc | jam12 | clc | nop1A | jam22 | plp | rolAcc | jam32 | sec | nop3A | rti | jam42
  | pha | lsrAcc | jam52 | cli | nop5A | rts | jam62 | pla | rorAcc | jam72 | sei | nop7A | dey | txa | jam92 | tya
  | txs | tay | tax | jamB2 | clv | tsx | iny | dex | jamD2 | cld | nopDA | inx | nop | jamF2 | sed | nopFA =>
    dsimp only [Instr.opcode]
    exact .alone _
  | nopAbs0C | oraAbs | aslAbs | sloAbs | oraAby | sloAby | nopAbx1C | oraAbx | aslAbx | sloAbx | jsr | bitAbs
  | andAbs | rolAbs | rlaAbs | andAby | rlaAby | nopAbx3C | andAbx | rolAbx | rlaAbx | jmpAbs | eorAbs | lsrAbs
  | sreAbs | eorAby | sreAby | nopAbx5C | eorAbx | lsrAbx | sreAbx | jmpInd | adcAbs | rorAbs | rraAbs | adcAby
  | rraAby | nopAbx7C | adcAbx | rorAbx | rraAbx | styAbs | staAbs | stxAbs | saxAbs | staAby | tasAby | shyAbx
  | staAbx | shxAby | shaAby | ldyAbs | ldaAbs | ldxAbs | laxAbs | ldaAby | lasAby | ldyAbx | ldaAbx | ldxAby
  | laxAby | cpyAbs | cmpAbs | decAbs | dcpAbs | cmpAby | dcpAby | nopAbxDC | cmpAbx | decAbx | dcpAbx | cpxAbs
  | sbcAbs | incAbs | iscAbs | sbcAby | iscAby | nopAbxFC | sbcAbx | incAbx | iscAbx =>
    dsimp only [Instr.opcode]
    exact .word _ _
  | _ =>
    dsimp only [Instr.opcode]
    exact .withByte _ _

/-- What the cell makes is encoded by `op` and the operand bytes. -/
def Cell.EncodedBy (op : Byte) : Cell → Prop
  | .alone i => encode i = [op]
  | .withByte f => encode ∘ f = fun b => [op, b]
  | .withWord f => encode ∘ f = fun w => [op, loByte w, hiByte w]

/-- Every place of the map holds an instruction whose encoding list names that place (rule R99). -/
theorem opcodeMap_encodedBy (row col : Fin 16) : opcodeMap[row][col].EncodedBy (BitVec.ofNat 8 (16 * row + col)) := by
  fin_cases row <;> fin_cases col <;> rfl

theorem cellOf_encodedBy (op : Byte) : (cellOf op).EncodedBy op := by
  have hplace := opcodeMap_encodedBy ⟨op.toNat / 16, by omega⟩ ⟨op.toNat % 16, by omega⟩
  rw [Nat.div_add_mod, BitVec.ofNat_toNat, BitVec.setWidth_eq] at hplace
  exact hplace

/-- The encoder gives back the bytes the map made an instruction of. -/
theorem encode_of_makes {op : Byte} {operands : List Byte} {i : Instr} (h : (cellOf op).Makes operands i) :
    encode i = op :: operands := by
  have henc := cellOf_encodedBy op
  generalize cellOf op = c at h henc
  cases h with
  | alone => exact henc
  | withByte f b => exact congrFun henc b
  | withWord f lo hi =>
    have hw := congrFun henc (joinBytes hi lo)
    rwa [loByte_joinBytes, hiByte_joinBytes] at hw

/-- The two lists of refused encodings, by class and by opcode byte, are the same (rules R100, R109). -/
theorem wellFormed_eq_not_refused (i : Instr) : i.wellFormed = !Safety.refusedOpcodes.contains i.opcode := by
  cases i <;> rfl

end Sys2Proof

open Sys2Proof Sys2Proof.Machine Sys2Proof.Safety

/-- Settles O2: the cell of the opcode byte makes the instruction of its operand bytes. -/
theorem decodeOfEncode : Obligations.DecodeOfEncode :=
  fun i rest => decode_of_makes (cellOf_opcode_makes i) rest

/-- Settles O3: bytes that decode were completed from a cell, and the map's cells encode to those bytes. -/
theorem encodeOfDecode : Obligations.EncodeOfDecode := by
  intro bytes rest i h
  obtain ⟨op, operands, rfl, hmakes⟩ := makes_of_decode h
  rw [encode_of_makes hmakes]

/-- Settles O1: each word is named by one place of the map. -/
theorem specWordsDecode : Obligations.SpecWordsDecode :=
  fun b lo hi rest => ⟨decode_withByte rfl b rest, decode_withWord rfl lo hi rest, decode_withByte rfl b rest,
    decode_alone rfl rest, decode_alone rfl rest, decode_withWord rfl lo hi rest, decode_withByte rfl b rest,
    decode_withByte rfl b rest, decode_withByte rfl b rest, decode_alone rfl rest⟩

/-- Settles O4: the class and the list of opcode bytes refuse the same instructions. -/
theorem refusedBytesAreIllFormed : Obligations.RefusedBytesAreIllFormed := by
  intro i
  rw [WellFormed, wellFormed_eq_not_refused, Bool.not_eq_true', ← Bool.not_eq_true, List.contains_iff_mem]

/-- Settles O7: each of the 19 arms of `exec` is a refusal. -/
theorem refusedInstructionsStop : Obligations.RefusedInstructionsStop :=
  fun _ _ _ => List.forall_iff_forall_mem.mp
    ⟨rfl, rfl, rfl, rfl, rfl, rfl, rfl, rfl, rfl, rfl, rfl, rfl, rfl, rfl, rfl, rfl, rfl, rfl, rfl⟩

end

section
/-! PROOFS. Which flags an instruction writes (10_state.md rules R27, R28): the seven flag instructions, and for every
instruction that no flag changes beyond the table of writers. -/

namespace Sys2Proof.Safety

open Sys2Proof.Machine

theorem flagInstrs_run (s : State) : ∀ q ∈ flagInstrs, RunsAlone q.1 q.2.1 s (s.setFlag q.2.2.1 q.2.2.2) :=
  List.forall_iff_forall_mem.mp
    ⟨⟨rfl, rfl⟩, ⟨rfl, rfl⟩, ⟨rfl, rfl⟩, ⟨rfl, rfl⟩, ⟨rfl, rfl⟩, ⟨rfl, rfl⟩, ⟨rfl, rfl⟩⟩

/-! ## Flags kept by two operations -/

theorem flagsExcept_all (s t : State) : FlagsExcept [.n, .v, .bit5, .b, .d, .i, .z, .c] s t :=
  fun f hf => absurd (by cases f <;> decide) hf

theorem flagsExcept_setFlag_c_setSum (s : State) (c : Bool) (u : Sum) :
    FlagsExcept [.n, .v, .z, .c] s ((s.setFlag .c c).setSum u) :=
  s.setSum_setFlag_c c u ▸ flagsExcept_setSum s u

theorem flagsExcept_setNZ_setFlag_c (s : State) (v : Byte) (c : Bool) :
    FlagsExcept [.n, .z, .c] s ((s.setNZ v).setFlag .c c) :=
  s.setFlag_c_setNZ v c ▸ flagsExcept_setShifted s ⟨v, c⟩

theorem flagsExcept_setNZ_setFlag_c_setFlag_v (s : State) (r : Byte) (c v : Bool) :
    FlagsExcept [.n, .z, .c, .v] s (((s.setNZ r).setFlag .c c).setFlag .v v) :=
  ((flagsExcept_setNZ_setFlag_c s r c).mono (by decide)).trans ((flagsExcept_setFlag _ .v v).mono (by decide))

theorem flagsExcept_opBit (m : Byte) (s : State) : FlagsExcept [.n, .v, .z] s (opBit m s) :=
  opBit_eq_setP m s ▸ flagsExcept_putBit s s.a m

theorem flagsExcept_softwareBreak (s : State) : FlagsExcept [.i] s (softwareBreak s) :=
  fun f hf => (softwareBreak_flag s f).trans (flagsExcept_setFlag s .i true f hf)

/-! ## The status byte after a branch and after RTS -/

theorem branchOp_keeps_p (op b : Byte) (cond : Bool) (s : State) : ∃ t, branchOp op b cond s = .next t ∧ t.p = s.p := by
  cases cond with
  | true => exact ⟨_, branchOp_taken.mpr rfl, rfl⟩
  | false => exact ⟨_, branchOp_not_taken.mpr rfl, rfl⟩

theorem callOp_keeps_p (op : Byte) (w : Word) (s : State) : ∃ t, callOp op w s = .next t ∧ t.p = s.p :=
  ⟨_, callOp_next.mpr rfl, by simp [State.pushWord]⟩

theorem returnOp_returnFromCall_keeps_p (op sentinel : Byte) (s : State) :
    ∃ t, returnOp op sentinel returnFromCall s = .next t ∧ t.p = s.p := by
  by_cases hsp : s.sp = spReset
  · exact ⟨_, (returnOp_empty hsp).trans (sentinelOp_next.mpr rfl), rfl⟩
  · exact ⟨_, (returnOp_not_empty hsp).trans (transferOp_next.mpr rfl), by simp [returnFromCall]⟩

/-! ## The table of writers -/

/-- `run`, of the opcode byte `op`, keeps every flag whose writers `op` is not among. -/
def KeepsUnlisted (op : Byte) (run : State → Result) : Prop :=
  ∀ s t, run s = .next t → ∀ f, op ∉ flagWriters f → t.flag f = s.flag f

section

variable {op : Byte} {run : State → Result} {fs : List Flag}

/-- It is enough that the status byte is that of a state in which only listed flags differ. -/
theorem KeepsUnlisted.of_flagsExcept (hlisted : ∀ f ∈ fs, op ∈ flagWriters f)
    (h : ∀ s, ∃ t u, run s = .next t ∧ t.p = u.p ∧ FlagsExcept fs s u) : KeepsUnlisted op run := by
  intro s t hrun f hf
  obtain ⟨t', u, hnext, hp, hflags⟩ := h s
  obtain rfl : t' = t := Host.Outcome.next.inj (hnext.symm.trans hrun)
  exact (congrArg (getFlag · f) hp).trans (hflags f fun hmem => hf (hlisted f hmem))

/-- An instruction with an effective address. -/
theorem KeepsUnlisted.of_retireAt (hlisted : ∀ f ∈ fs, op ∈ flagWriters f)
    (h : ∀ s, ∃ acc u, run s = .next (retireAt op acc u) ∧ FlagsExcept fs s u) : KeepsUnlisted op run :=
  .of_flagsExcept hlisted fun s => by
    obtain ⟨acc, u, hnext, hflags⟩ := h s
    exact ⟨_, u, hnext, retireAt_p u op acc, hflags⟩

/-- A one-byte instruction. -/
theorem KeepsUnlisted.of_retire (hlisted : ∀ f ∈ fs, op ∈ flagWriters f)
    (h : ∀ s, ∃ u, run s = .next (freeAddr (retire op 1 false false u)) ∧ FlagsExcept fs s u) :
    KeepsUnlisted op run :=
  .of_flagsExcept hlisted fun s => by
    obtain ⟨u, hnext, hflags⟩ := h s
    exact ⟨_, u, hnext, rfl, hflags⟩

theorem KeepsUnlisted.of_p_eq (h : ∀ s, ∃ t, run s = .next t ∧ t.p = s.p) : KeepsUnlisted op run :=
  .of_flagsExcept (List.forall_mem_nil _) fun s => by
    obtain ⟨t, hnext, hp⟩ := h s
    exact ⟨t, s, hnext, hp, fun _ _ => rfl⟩

end

/-- Rules R27 and R28, by what each instruction does to the status byte. Where it has an operand, its opcode byte is
first made a literal, so that `decide` can look it up in the table. -/
theorem exec_keepsUnlisted (i : Instr) : KeepsUnlisted i.opcode (exec i) := by
  cases i with
  | jam02 | jam12 | jam22 | jam32 | jam42 | jam52 | jam62 | jam72 | jam92 | jamB2 | jamD2 | jamF2
  | aneImm | lxaImm | shaIzy | shaAby | shxAby | shyAbx | tasAby => exact fun _ _ h => nomatch h
  | bpl | bmi | bvc | bvs | bcc | bcs | bne | beq => exact .of_p_eq fun s => branchOp_keeps_p _ _ _ s
  | jsr => exact .of_p_eq fun s => callOp_keeps_p _ _ s
  | rts => exact .of_p_eq fun s => returnOp_returnFromCall_keeps_p _ _ s
  | rti =>
    refine .of_flagsExcept (fs := [.n, .v, .bit5, .b, .d, .i, .z, .c]) (by decide) fun s => ?_
    obtain ⟨t, ht⟩ := returnOp_completes 0x40 s.params.sentinelRti returnFromBreak s
    exact ⟨t, t, ht, rfl, flagsExcept_all s t⟩
  | plp => exact .of_retire (by decide) fun s => ⟨_, rfl, flagsExcept_all s _⟩
  | clc | sec | cli | sei | clv | cld | sed =>
    exact .of_retire (by decide) fun s => ⟨_, rfl, flagsExcept_setFlag s _ _⟩
  | brk => exact .of_flagsExcept (by decide) fun s => ⟨_, _, rfl, rfl, flagsExcept_softwareBreak s⟩
  | bitZp | bitAbs =>
    dsimp only [Instr.opcode]
    exact .of_retireAt (by decide) fun s => ⟨_, _, rfl, flagsExcept_opBit _ s⟩
  | ancImm0B | ancImm2B =>
    dsimp only [Instr.opcode]
    exact .of_retireAt (by decide) fun s => ⟨_, _, rfl, flagsExcept_setNZ_setFlag_c s _ _⟩
  | arrImm =>
    dsimp only [Instr.opcode]
    exact .of_retireAt (by decide) fun s => ⟨_, _, rfl, flagsExcept_setNZ_setFlag_c_setFlag_v s _ _ _⟩
  | cmpImm | cmpZp | cmpZpx | cmpAbs | cmpAbx | cmpAby | cmpIzx | cmpIzy | cpxImm | cpxZp | cpxAbs
  | cpyImm | cpyZp | cpyAbs | dcpZp | dcpZpx | dcpAbs | dcpAbx | dcpAby | dcpIzx | dcpIzy =>
    dsimp only [Instr.opcode]
    exact .of_retireAt (by decide) fun s => ⟨_, _, rfl, flagsExcept_compare s _ _⟩
  | adcImm | adcZp | adcZpx | adcAbs | adcAbx | adcAby | adcIzx | adcIzy
  | sbcImm | sbcZp | sbcZpx | sbcAbs | sbcAbx | sbcAby | sbcIzx | sbcIzy | sbcImmEB
  | iscZp | iscZpx | iscAbs | iscAbx | iscAby | iscIzx | iscIzy =>
    dsimp only [Instr.opcode]
    exact .of_retireAt (by decide) fun s => ⟨_, _, rfl, flagsExcept_setSum s _⟩
  | rraZp | rraZpx | rraAbs | rraAbx | rraAby | rraIzx | rraIzy =>
    dsimp only [Instr.opcode]
    exact .of_retireAt (by decide) fun s => ⟨_, _, rfl, flagsExcept_setFlag_c_setSum s _ _⟩
  | aslZp | aslZpx | aslAbs | aslAbx | rolZp | rolZpx | rolAbs | rolAbx
  | lsrZp | lsrZpx | lsrAbs | lsrAbx | rorZp | rorZpx | rorAbs | rorAbx
  | sloZp | sloZpx | sloAbs | sloAbx | sloAby | sloIzx | sloIzy
  | rlaZp | rlaZpx | rlaAbs | rlaAbx | rlaAby | rlaIzx | rlaIzy
  | sreZp | sreZpx | sreAbs | sreAbx | sreAby | sreIzx | sreIzy | alrImm | sbxImm =>
    dsimp only [Instr.opcode]
    exact .of_retireAt (by decide) fun s => ⟨_, _, rfl, flagsExcept_setShifted s ⟨_, _⟩⟩
  | oraImm | oraZp | oraZpx | oraAbs | oraAbx | oraAby | oraIzx | oraIzy
  | andImm | andZp | andZpx | andAbs | andAbx | andAby | andIzx | andIzy
  | eorImm | eorZp | eorZpx | eorAbs | eorAbx | eorAby | eorIzx | eorIzy
  | ldaImm | ldaZp | ldaZpx | ldaAbs | ldaAbx | ldaAby | ldaIzx | ldaIzy
  | ldxImm | ldxZp | ldxZpy | ldxAbs | ldxAby | ldyImm | ldyZp | ldyZpx | ldyAbs | ldyAbx
  | laxZp | laxZpy | laxAbs | laxAby | laxIzx | laxIzy | lasAby
  | decZp | decZpx | decAbs | decAbx | incZp | incZpx | incAbs | incAbx =>
    dsimp only [Instr.opcode]
    exact .of_retireAt (by decide) fun s => ⟨_, _, rfl, flagsExcept_setNZ s _⟩
  | pla | txa | tax | tsx | tay | tya | dex | dey | inx | iny =>
    exact .of_retire (by decide) fun s => ⟨_, rfl, flagsExcept_setNZ s _⟩
  | aslAcc | rolAcc | lsrAcc | rorAcc =>
    exact .of_retire (by decide) fun s => ⟨_, rfl, flagsExcept_setShifted s ⟨_, _⟩⟩
  | _ => exact .of_p_eq fun s => ⟨_, rfl, rfl⟩

end Sys2Proof.Safety

open Sys2Proof Sys2Proof.Machine Sys2Proof.Safety

/-- Settles O37: each of the seven instructions runs `setFlag` on its flag. -/
theorem flagInstructionResults : Obligations.FlagInstructionResults := by
  intro s ⟨i, op, f, v⟩ hq
  have hrun : RunsAlone i op s (s.setFlag f v) := flagInstrs_run s _ hq
  exact ⟨_, hrun.exec_eq, (s.flag_setFlag f f v).trans (if_pos rfl), flagsExcept_setFlag s f v, ⟨rfl, rfl, rfl, rfl⟩,
    hrun.frame⟩

/-- Settles O49: an instruction changes the status byte only in flags that list its opcode byte. -/
theorem flagsAreWrittenOnlyAsListed : Obligations.FlagsAreWrittenOnlyAsListed :=
  fun i s t f hnext hf => exec_keepsUnlisted i s t hnext f hf

end

section
/-! PROOFS. The state after both reset calls (10_state.md section 6, 70_reset_and_hazards.md section 1). -/

namespace Sys2Proof.Machine

/-- Reading a list of cells that all hold `v`, at one of their addresses. -/
theorem memLookup_map_add {ks : List Nat} {k : Nat} (base : Nat) (v : Byte) (hk : k ∈ ks) :
    memLookup (ks.map fun j => (base + j, v)) (base + k) = some v := by
  induction ks with
  | nil => cases hk
  | cons j ks ih =>
    by_cases hj : k = j
    · simp [memLookup, hj]
    · have hmem : k ∈ ks := (List.mem_cons.mp hk).resolve_left hj
      simp [memLookup, hj, ih hmem]

/-- The window of the one active chip reads 0 (rule R44, D21). -/
theorem read_reset_window {k : Nat} (hk : k < 0x20) : State.reset.read (0xD400 + BitVec.ofNat 16 k) = 0 := by
  have haddr : (0xD400 + BitVec.ofNat 16 k : Word).toNat = 0xD400 + k := by
    bv_omega
  have hcell : memLookup State.reset.mem (0xD400 + k) = some 0 :=
    memLookup_map_add 0xD400 0 (List.mem_range.mpr hk)
  rw [State.read, haddr, hcell]
  rfl

end Sys2Proof.Machine

open Sys2Proof Sys2Proof.Machine Sys2Proof.Safety

/-- Settles O12: only chip 0 is active; its window is zeroed, and each chip is the reset of itself. -/
theorem resetStateValues : Obligations.ResetStateValues := by
  refine ⟨rfl, rfl, rfl, rfl, fun i hi k hk => ?window, fun i => ?chip⟩
  case window =>
    cases i with
    | chip0 => exact read_reset_window hk
    | chip1 | chip2 => cases hi
  case chip => cases i <;> rfl

/-- Settles O13: memory is canonical, the decided sentinels differ, and every channel is a reset channel. -/
theorem resetMeetsInvariant : Obligations.ResetMeetsInvariant :=
  have hchip : ∀ model base out, ChipInv (Chip.reset model base out) :=
    fun _ _ _ => ⟨channelInv_reset, channelInv_reset, channelInv_reset⟩
  ⟨memWf_reset, by decide, by decide, by decide, hchip _ _ _, hchip _ _ _, hchip _ _ _⟩

end
